-- ==== Sys2Proof/Word.lean ====
section
/-! DEFINITION. The word types of the machine and nothing else: widths as the spec fixes them (00_scope.md rule R6). -/

namespace Sys2Proof

/-- A byte of memory, 8 bits (00_scope.md rule R18). -/
abbrev Byte := BitVec 8

/-- An instruction word, 32 bits (30_encoding.md rule R130). -/
abbrev Word := BitVec 32

/-- An octlet, 64 bits: an address, the program counter, the low half of a register (00_scope.md rule R18). -/
abbrev Octlet := BitVec 64

/-- A hexlet, 128 bits: the contents of a general register (10_state.md rule R40). -/
abbrev Hexlet := BitVec 128

/-- The number of a general register: a 6-bit field, every value of which names a register when `NREG` is 64
(10_state.md rule R41, 92_eei_decisions.md D4). -/
abbrev Reg := BitVec 6

/-- A privilege level: a 2-bit number, larger is more privileged (10_state.md rule R55). -/
abbrev Level := BitVec 2

end Sys2Proof
end

