-- ==== Sys2Proof/Config.lean ====
section
/-! DEFINITION. What an implementation fixes, the launch parameters the spec leaves open (00_scope.md rule R7),
and the free values: constants without a body, of which nothing can be evaluated or proved. -/

namespace Sys2Proof

/-- Byte order of one memory access (20_memory.md rule R94). -/
inductive ByteOrder where
  /-- `L`: the byte at the lowest address is the least significant. -/
  | little
  /-- `B`: the byte at the lowest address is the most significant. -/
  | big
deriving DecidableEq, Repr

/-- The kind of access given to `Translate` (20_memory.md rule R101). -/
inductive AccessKind where
  | read
  | write
  | gateway
  | execute
deriving DecidableEq, Repr

/-- The nine access exceptions, in the order the document lists them (20_memory.md rule R101). -/
inductive AccessFault where
  | disallowedByVirtualAddress
  | disallowedByTag
  | disallowedByGlobalTB
  | disallowedByLocalTB
  | detailRequiredByTag
  | detailRequiredByLocalTB
  | detailRequiredByGlobalTB
  | localTBMiss
  | globalTBMiss
deriving DecidableEq, Repr

/-- The kind of transaction that reaches a physical address (10_state.md rule R63, 20_memory.md rule R107). -/
inductive Transaction where
  | memory
  | io
deriving DecidableEq, Repr

/-- The number of physical addresses: 32 bits of address pins (00_scope.md rule R6, 20_memory.md rule R107). -/
def physicalSpace : Nat := 2 ^ 32

/-- A physical byte address below `physicalSpace`, and the kind of transaction that reaches it. -/
structure PhysicalAddress where
  transaction : Transaction
  address : Nat
deriving DecidableEq, Repr

/-- What a rule of the translation does with an address it covers. -/
inductive XlatAction where
  /-- `Ok(pa)`: the first address of the rule's range of virtual addresses goes to physical address `base`,
  the next to `base + 1`, and so on, in the 2^32 addresses there are. -/
  | map (transaction : Transaction) (base : BitVec 32)
  /-- `Raise(E)`, E one of the nine access exceptions. -/
  | raise (e : AccessFault)
deriving DecidableEq, Repr

/-- One rule of the translation table: it covers the base addresses in `[baLo, baHi)`, the virtual addresses in
`[vaLo, vaHi)`, and the access kinds and privilege levels listed.  A list of such rules, the first that covers an
access deciding it, is the parameter `Translate(ba, va, kind, pl)` of 20_memory.md rule R101 written as plain data;
every function of those four finite arguments is such a list. -/
structure XlatRule where
  baLo : Nat
  baHi : Nat
  vaLo : Nat
  vaHi : Nat
  kinds : List AccessKind
  levels : List Level
  action : XlatAction
deriving DecidableEq, Repr

/-- The parameter `RegWrite64Upper` (10_state.md rule R45): what a 64-bit register write leaves in bits 127..64. -/
inductive UpperWrite where
  /-- any 64-bit value, a fresh one at each write (recommended) -/
  | draw
  /-- zeros -/
  | zero
  /-- 64 copies of bit 63 of the value written -/
  | sext
  /-- the old bits -/
  | preserve
deriving DecidableEq, Repr

/-- The parameter `AddrCompareWidth` (42_address.md rule R450). -/
inductive CompareWidth where
  | w64
  | w128
deriving DecidableEq, Repr

/-- The parameter `UOImmReading` (42_address.md rule R403). -/
inductive UOReading where
  | literal
  | zextC
  | zextBoth
deriving DecidableEq, Repr

/-- The parameter `OpcodeMap` (30_encoding.md rule R134): the bits of each assigned encoding under its row's mask, in
the order of `rows` (Decode.lean). -/
structure OpcodeMap where
  codes : List Word
deriving DecidableEq, Repr

/-- The parameter `FPCompare` (43_branch.md rule R505): which functions `F`, `fcom` and `fabs` are. -/
inductive FPCompare where
  /-- those of IEEE 754 (recommended) -/
  | ieee754
  /-- any functions with the result sets of the rule: `Config.fpDecode`, `Config.fpCompare` and `Config.fpAbs` -/
  | abstract
deriving DecidableEq, Repr

/-- The parameter `TrapEntry` (60_exceptions.md rule R907): what a raised exception does. -/
inductive TrapEntry where
  /-- the run ends in a fault (recommended) -/
  | final
  /-- the run goes on after the state change `Config.trapEntry` -/
  | continues
deriving DecidableEq, Repr

/-- The class `t` of a floating-point number: it tells the two kinds of NaN from the rest (43_branch.md rule R505). -/
inductive FpClass where
  | number
  | qnan
  | snan
deriving DecidableEq, Repr, Inhabited

/-- What `F(size, bits)` answers (43_branch.md rule R505): a sign `s`, a class `t`, and a magnitude, a natural number
that orders the numbers of one format (zero, subnormals, normals, infinity). -/
structure FpNumber where
  negative : Bool
  cls : FpClass
  magnitude : Nat
deriving DecidableEq, Repr, Inhabited

/-- The outcomes of `fcom` (43_branch.md rule R505); `unordered` is the fourth, when an operand is a NaN. -/
inductive FpOrder where
  | less
  | greater
  | equal
  | unordered
deriving DecidableEq, Repr, Inhabited

/-- The state change that trap entry makes (60_exceptions.md rules R907 and R908): the new contents of the registers, of
`PrivilegeLevel` and of `ExceptionState`, the address of the handler's first instruction without its two low bits, which
are 0 (10_state.md rule R50), and the bytes stored, each at its physical address, first to last. -/
structure TrapEffect where
  regs : Vector Hexlet 64
  privilegeLevel : Level
  exceptionState : Nat
  handler : BitVec 62
  stores : List (BitVec 32 × Byte)
deriving DecidableEq, Repr, Inhabited

/-- The parameters of 00_scope.md rule R7 that a step reads, each of which the model takes as an argument: they stand in
the state, so that every statement holds for each of their values; no step changes them. -/
structure Params where
  /-- `NREG`: the number of general registers (10_state.md rule R41); a 6-bit field can name 64. -/
  nreg : Nat
  /-- `OpcodeMap` (30_encoding.md rule R134). -/
  opcodeMap : OpcodeMap
  /-- `FetchOrder`: byte order of an instruction word in memory (20_memory.md rule R96). -/
  fetchOrder : ByteOrder
  /-- `RegWrite64Upper` (10_state.md rule R45). -/
  upperWrite : UpperWrite
  /-- `Translate` and `MemDomain` (20_memory.md rules R101 and R102). -/
  translation : List XlatRule
  /-- `TrapEntry` (60_exceptions.md rule R907). -/
  trapEntry : TrapEntry
  /-- `FPCompare` (43_branch.md rule R505). -/
  fpCompare : FPCompare
  /-- `UOImmReading` (42_address.md rule R403). -/
  uoReading : UOReading
  /-- `F1Const` (43_branch.md rule R546). -/
  f1Const : BitVec 32
  /-- `AddrCompareWidth` (42_address.md rule R450). -/
  compareWidth : CompareWidth
deriving DecidableEq, Repr

namespace Config

/-- Free value: bits 127..64 of a register after the `n`-th 64-bit write under `RegWrite64Upper = draw`
(10_state.md rule R45, 93_implementation_defined.md U3; notes/assumptions/3.md). -/
opaque freeUpper : Nat → BitVec 64

/-- Free value: which of the contents a byte has held since the last B.BARRIER an instruction fetch observes
(20_memory.md rule R110, 93_implementation_defined.md U7; notes/assumptions/9.md). -/
opaque fetchChoice : Nat → Nat

/-- Free value: `F(size, bits)` on the low `size` bits, under `FPCompare = abstract` (43_branch.md rule R505;
notes/assumptions/12.md). -/
opaque fpDecode : (size : Nat) → BitVec size → FpNumber

/-- Free value: `fcom(a, b)` under `FPCompare = abstract` (43_branch.md rule R505; notes/assumptions/12.md). -/
opaque fpCompare : FpNumber → FpNumber → FpOrder

/-- Free value: `fabs(a)` under `FPCompare = abstract` (43_branch.md rule R505; notes/assumptions/12.md). -/
opaque fpAbs : FpNumber → FpNumber

/-- The default `Translate` of 20_memory.md rule R102 with the virtual addresses 0 to 2^32 - 1 as `MemDomain`: the
identity onto the physical space, every kind and every privilege level allowed.  DESIGN CHOICE
(notes/assumptions/7.md): the spec leaves `MemDomain` OPEN. -/
def identityTranslation : List XlatRule :=
  [{ baLo := 0, baHi := 2 ^ 64, vaLo := 0, vaHi := physicalSpace
     kinds := [.read, .write, .gateway, .execute], levels := [0, 1, 2, 3], action := .map .memory 0 }]

/-- `ResetPC` (10_state.md rule R70) in `State.reset`: a multiple of 4, left OPEN.  DESIGN CHOICE 0
(notes/assumptions/5.md). -/
def resetPC : Octlet := 0

/-- `ResetPL` (10_state.md rule R70) in `State.reset`: recommended 3. -/
def resetPL : Level := 3

end Config

end Sys2Proof
end

