-- ==== Sys2Proof/Machine/Bytes.lean ====
section
/-! DEFINITION. Values as lists of bytes, lowest address first, in either byte order: the one place where byte order is
decided (20_memory.md rules R90, R93 and R94). -/

namespace Sys2Proof.Machine

/-- The number whose base-256 digits are the bytes, the least significant first. -/
def littleNat : List Byte → Nat
  | [] => 0
  | b :: bs => b.toNat + 256 * littleNat bs

/-- The bytes in the order of their significance, least significant first, given lowest address first. -/
def bySignificance (ord : ByteOrder) (bs : List Byte) : List Byte :=
  match ord with
  | .little => bs
  | .big => bs.reverse

/-- The `size`-bit value of the bytes of an access, lowest address first (20_memory.md rule R90). -/
def assemble (ord : ByteOrder) (size : Nat) (bs : List Byte) : BitVec size :=
  BitVec.ofNat size (littleNat (bySignificance ord bs))

/-- The `n` bytes of a value in the order a store writes them, lowest address first (20_memory.md rule R93). -/
def disassemble (ord : ByteOrder) (n : Nat) {w : Nat} (v : BitVec w) : List Byte :=
  bySignificance ord ((List.range n).map fun k => v.extractLsb' (8 * k) 8)

end Sys2Proof.Machine
end

