-- ==== Sys2Proof/Syntax.lean ====
section
/-! DEFINITION. The instruction set as syntax: one constructor per row of spec/opcode_table.json, in its order, with the
fields of the row's format (30_encoding.md rules R133 and R135).  Each constructor is documented by its mnemonic and rule. -/

namespace Sys2Proof

/-- The 345 instructions (00_scope.md rule R4).  Register fields are 6-bit numbers; an immediate or offset has the width
of its field; `amount` of a shift-and-add is the assembler's shift count `i`, which `WellFormed` confines to 1..4
(30_encoding.md rule R149); `sign` of G.COPY.I is bit 0 of the operation code (30_encoding.md rule R148). -/
inductive Instr where
  /-- L.8 (R210) -/
  | l8 (rd rc rb : Reg)
  /-- L.16.B (R211) -/
  | l16B (rd rc rb : Reg)
  /-- L.16.A.B (R212) -/
  | l16AB (rd rc rb : Reg)
  /-- L.16.L (R213) -/
  | l16L (rd rc rb : Reg)
  /-- L.16.A.L (R214) -/
  | l16AL (rd rc rb : Reg)
  /-- L.32.B (R215) -/
  | l32B (rd rc rb : Reg)
  /-- L.32.A.B (R216) -/
  | l32AB (rd rc rb : Reg)
  /-- L.32.L (R217) -/
  | l32L (rd rc rb : Reg)
  /-- L.32.A.L (R218) -/
  | l32AL (rd rc rb : Reg)
  /-- L.64.B (R219) -/
  | l64B (rd rc rb : Reg)
  /-- L.64.A.B (R220) -/
  | l64AB (rd rc rb : Reg)
  /-- L.64.L (R221) -/
  | l64L (rd rc rb : Reg)
  /-- L.64.A.L (R222) -/
  | l64AL (rd rc rb : Reg)
  /-- L.128.B (R223) -/
  | l128B (rd rc rb : Reg)
  /-- L.128.A.B (R224) -/
  | l128AB (rd rc rb : Reg)
  /-- L.128.L (R225) -/
  | l128L (rd rc rb : Reg)
  /-- L.128.A.L (R226) -/
  | l128AL (rd rc rb : Reg)
  /-- L.U.8 (R227) -/
  | lU8 (rd rc rb : Reg)
  /-- L.U.16.B (R228) -/
  | lU16B (rd rc rb : Reg)
  /-- L.U.16.A.B (R229) -/
  | lU16AB (rd rc rb : Reg)
  /-- L.U.16.L (R230) -/
  | lU16L (rd rc rb : Reg)
  /-- L.U.16.A.L (R231) -/
  | lU16AL (rd rc rb : Reg)
  /-- L.U.32.B (R232) -/
  | lU32B (rd rc rb : Reg)
  /-- L.U.32.A.B (R233) -/
  | lU32AB (rd rc rb : Reg)
  /-- L.U.32.L (R234) -/
  | lU32L (rd rc rb : Reg)
  /-- L.U.32.A.L (R235) -/
  | lU32AL (rd rc rb : Reg)
  /-- L.U.64.B (R236) -/
  | lU64B (rd rc rb : Reg)
  /-- L.U.64.A.B (R237) -/
  | lU64AB (rd rc rb : Reg)
  /-- L.U.64.L (R238) -/
  | lU64L (rd rc rb : Reg)
  /-- L.U.64.A.L (R239) -/
  | lU64AL (rd rc rb : Reg)
  /-- L.I.8 (R240) -/
  | lI8 (rd rc : Reg) (offset : BitVec 12)
  /-- L.I.16.A.B (R241) -/
  | lI16AB (rd rc : Reg) (offset : BitVec 12)
  /-- L.I.16.B (R242) -/
  | lI16B (rd rc : Reg) (offset : BitVec 12)
  /-- L.I.16.A.L (R243) -/
  | lI16AL (rd rc : Reg) (offset : BitVec 12)
  /-- L.I.16.L (R244) -/
  | lI16L (rd rc : Reg) (offset : BitVec 12)
  /-- L.I.32.A.B (R245) -/
  | lI32AB (rd rc : Reg) (offset : BitVec 12)
  /-- L.I.32.B (R246) -/
  | lI32B (rd rc : Reg) (offset : BitVec 12)
  /-- L.I.32.A.L (R247) -/
  | lI32AL (rd rc : Reg) (offset : BitVec 12)
  /-- L.I.32.L (R248) -/
  | lI32L (rd rc : Reg) (offset : BitVec 12)
  /-- L.I.64.A.B (R249) -/
  | lI64AB (rd rc : Reg) (offset : BitVec 12)
  /-- L.I.64.B (R250) -/
  | lI64B (rd rc : Reg) (offset : BitVec 12)
  /-- L.I.64.A.L (R251) -/
  | lI64AL (rd rc : Reg) (offset : BitVec 12)
  /-- L.I.64.L (R252) -/
  | lI64L (rd rc : Reg) (offset : BitVec 12)
  /-- L.I.128.A.B (R253) -/
  | lI128AB (rd rc : Reg) (offset : BitVec 12)
  /-- L.I.128.B (R254) -/
  | lI128B (rd rc : Reg) (offset : BitVec 12)
  /-- L.I.128.A.L (R255) -/
  | lI128AL (rd rc : Reg) (offset : BitVec 12)
  /-- L.I.128.L (R256) -/
  | lI128L (rd rc : Reg) (offset : BitVec 12)
  /-- L.I.U.8 (R257) -/
  | lIU8 (rd rc : Reg) (offset : BitVec 12)
  /-- L.I.U.16.A.B (R258) -/
  | lIU16AB (rd rc : Reg) (offset : BitVec 12)
  /-- L.I.U.16.B (R259) -/
  | lIU16B (rd rc : Reg) (offset : BitVec 12)
  /-- L.I.U.16.A.L (R260) -/
  | lIU16AL (rd rc : Reg) (offset : BitVec 12)
  /-- L.I.U.16.L (R261) -/
  | lIU16L (rd rc : Reg) (offset : BitVec 12)
  /-- L.I.U.32.A.B (R262) -/
  | lIU32AB (rd rc : Reg) (offset : BitVec 12)
  /-- L.I.U.32.B (R263) -/
  | lIU32B (rd rc : Reg) (offset : BitVec 12)
  /-- L.I.U.32.A.L (R264) -/
  | lIU32AL (rd rc : Reg) (offset : BitVec 12)
  /-- L.I.U.32.L (R265) -/
  | lIU32L (rd rc : Reg) (offset : BitVec 12)
  /-- L.I.U.64.A.B (R266) -/
  | lIU64AB (rd rc : Reg) (offset : BitVec 12)
  /-- L.I.U.64.B (R267) -/
  | lIU64B (rd rc : Reg) (offset : BitVec 12)
  /-- L.I.U.64.A.L (R268) -/
  | lIU64AL (rd rc : Reg) (offset : BitVec 12)
  /-- L.I.U.64.L (R269) -/
  | lIU64L (rd rc : Reg) (offset : BitVec 12)
  /-- S.8 (R310) -/
  | s8 (rd rc rb : Reg)
  /-- S.16.B (R311) -/
  | s16B (rd rc rb : Reg)
  /-- S.16.A.B (R312) -/
  | s16AB (rd rc rb : Reg)
  /-- S.16.L (R313) -/
  | s16L (rd rc rb : Reg)
  /-- S.16.A.L (R314) -/
  | s16AL (rd rc rb : Reg)
  /-- S.32.B (R315) -/
  | s32B (rd rc rb : Reg)
  /-- S.32.A.B (R316) -/
  | s32AB (rd rc rb : Reg)
  /-- S.32.L (R317) -/
  | s32L (rd rc rb : Reg)
  /-- S.32.A.L (R318) -/
  | s32AL (rd rc rb : Reg)
  /-- S.64.B (R319) -/
  | s64B (rd rc rb : Reg)
  /-- S.64.A.B (R320) -/
  | s64AB (rd rc rb : Reg)
  /-- S.64.L (R321) -/
  | s64L (rd rc rb : Reg)
  /-- S.64.A.L (R322) -/
  | s64AL (rd rc rb : Reg)
  /-- S.128.B (R323) -/
  | s128B (rd rc rb : Reg)
  /-- S.128.A.B (R324) -/
  | s128AB (rd rc rb : Reg)
  /-- S.128.L (R325) -/
  | s128L (rd rc rb : Reg)
  /-- S.128.A.L (R326) -/
  | s128AL (rd rc rb : Reg)
  /-- S.MUX.64.A.B (R327) -/
  | sMux64AB (rd rc rb : Reg)
  /-- S.MUX.64.A.L (R328) -/
  | sMux64AL (rd rc rb : Reg)
  /-- S.I.8 (R340) -/
  | sI8 (rd rc : Reg) (offset : BitVec 12)
  /-- S.I.16.A.B (R341) -/
  | sI16AB (rd rc : Reg) (offset : BitVec 12)
  /-- S.I.16.B (R342) -/
  | sI16B (rd rc : Reg) (offset : BitVec 12)
  /-- S.I.16.A.L (R343) -/
  | sI16AL (rd rc : Reg) (offset : BitVec 12)
  /-- S.I.16.L (R344) -/
  | sI16L (rd rc : Reg) (offset : BitVec 12)
  /-- S.I.32.A.B (R345) -/
  | sI32AB (rd rc : Reg) (offset : BitVec 12)
  /-- S.I.32.B (R346) -/
  | sI32B (rd rc : Reg) (offset : BitVec 12)
  /-- S.I.32.A.L (R347) -/
  | sI32AL (rd rc : Reg) (offset : BitVec 12)
  /-- S.I.32.L (R348) -/
  | sI32L (rd rc : Reg) (offset : BitVec 12)
  /-- S.I.64.A.B (R349) -/
  | sI64AB (rd rc : Reg) (offset : BitVec 12)
  /-- S.I.64.B (R350) -/
  | sI64B (rd rc : Reg) (offset : BitVec 12)
  /-- S.I.64.A.L (R351) -/
  | sI64AL (rd rc : Reg) (offset : BitVec 12)
  /-- S.I.64.L (R352) -/
  | sI64L (rd rc : Reg) (offset : BitVec 12)
  /-- S.I.128.A.B (R353) -/
  | sI128AB (rd rc : Reg) (offset : BitVec 12)
  /-- S.I.128.B (R354) -/
  | sI128B (rd rc : Reg) (offset : BitVec 12)
  /-- S.I.128.A.L (R355) -/
  | sI128AL (rd rc : Reg) (offset : BitVec 12)
  /-- S.I.128.L (R356) -/
  | sI128L (rd rc : Reg) (offset : BitVec 12)
  /-- S.MUXI.64.A.B (R357) -/
  | sMuxi64AB (rd rc : Reg) (offset : BitVec 12)
  /-- S.MUXI.64.A.L (R358) -/
  | sMuxi64AL (rd rc : Reg) (offset : BitVec 12)
  /-- A.RES (R410) -/
  | aRes (imm : BitVec 24)
  /-- A.ADD (R411) -/
  | aAdd (rd rc rb : Reg)
  /-- A.ADD.O (R412) -/
  | aAddO (rd rc rb : Reg)
  /-- A.ADD.U.O (R413) -/
  | aAddUO (rd rc rb : Reg)
  /-- A.AND (R414) -/
  | aAnd (rd rc rb : Reg)
  /-- A.ANDN (R415) -/
  | aAndn (rd rc rb : Reg)
  /-- A.NAND (R416) -/
  | aNand (rd rc rb : Reg)
  /-- A.NOR (R417) -/
  | aNor (rd rc rb : Reg)
  /-- A.OR (R418) -/
  | aOr (rd rc rb : Reg)
  /-- A.ORN (R419) -/
  | aOrn (rd rc rb : Reg)
  /-- A.XNOR (R420) -/
  | aXnor (rd rc rb : Reg)
  /-- A.XOR (R421) -/
  | aXor (rd rc rb : Reg)
  /-- A.COM.AND.E (R422) -/
  | aComAndE (rd rc : Reg)
  /-- A.COM.AND.NE (R423) -/
  | aComAndNe (rd rc : Reg)
  /-- A.COM.E (R424) -/
  | aComE (rd rc : Reg)
  /-- A.COM.GE (R425) -/
  | aComGe (rd rc : Reg)
  /-- A.COM.GE.U (R426) -/
  | aComGeU (rd rc : Reg)
  /-- A.COM.L (R427) -/
  | aComL (rd rc : Reg)
  /-- A.COM.L.U (R428) -/
  | aComLU (rd rc : Reg)
  /-- A.COM.NE (R429) -/
  | aComNe (rd rc : Reg)
  /-- A.COPY.I (R430) -/
  | aCopyI (rd : Reg) (imm : BitVec 18)
  /-- A.ADD.I (R431) -/
  | aAddI (rd rc : Reg) (imm : BitVec 12)
  /-- A.ADD.I.O (R432) -/
  | aAddIO (rd rc : Reg) (imm : BitVec 12)
  /-- A.ADD.I.U.O (R433) -/
  | aAddIUO (rd rc : Reg) (imm : BitVec 12)
  /-- A.AND.I (R434) -/
  | aAndI (rd rc : Reg) (imm : BitVec 12)
  /-- A.NAND.I (R435) -/
  | aNandI (rd rc : Reg) (imm : BitVec 12)
  /-- A.NOR.I (R436) -/
  | aNorI (rd rc : Reg) (imm : BitVec 12)
  /-- A.OR.I (R437) -/
  | aOrI (rd rc : Reg) (imm : BitVec 12)
  /-- A.XOR.I (R438) -/
  | aXorI (rd rc : Reg) (imm : BitVec 12)
  /-- A.SET.AND.E.I (R439) -/
  | aSetAndEI (rd rc : Reg) (imm : BitVec 12)
  /-- A.SET.AND.NE.I (R440) -/
  | aSetAndNeI (rd rc : Reg) (imm : BitVec 12)
  /-- A.SET.E.I (R441) -/
  | aSetEI (rd rc : Reg) (imm : BitVec 12)
  /-- A.SET.GE.I (R442) -/
  | aSetGeI (rd rc : Reg) (imm : BitVec 12)
  /-- A.SET.L.I (R443) -/
  | aSetLI (rd rc : Reg) (imm : BitVec 12)
  /-- A.SET.NE.I (R444) -/
  | aSetNeI (rd rc : Reg) (imm : BitVec 12)
  /-- A.SET.GE.I.U (R445) -/
  | aSetGeIU (rd rc : Reg) (imm : BitVec 12)
  /-- A.SET.L.I.U (R446) -/
  | aSetLIU (rd rc : Reg) (imm : BitVec 12)
  /-- A.SUB.I (R447) -/
  | aSubI (rd rc : Reg) (imm : BitVec 12)
  /-- A.SUB.I.O (R448) -/
  | aSubIO (rd rc : Reg) (imm : BitVec 12)
  /-- A.SUB.I.U.O (R449) -/
  | aSubIUO (rd rc : Reg) (imm : BitVec 12)
  /-- A.SET.AND.E (R451) -/
  | aSetAndE (rd rc rb : Reg)
  /-- A.SET.AND.NE (R452) -/
  | aSetAndNe (rd rc rb : Reg)
  /-- A.SET.E (R453) -/
  | aSetE (rd rc rb : Reg)
  /-- A.SET.GE (R454) -/
  | aSetGe (rd rc rb : Reg)
  /-- A.SET.GE.U (R455) -/
  | aSetGeU (rd rc rb : Reg)
  /-- A.SET.L (R456) -/
  | aSetL (rd rc rb : Reg)
  /-- A.SET.L.U (R457) -/
  | aSetLU (rd rc rb : Reg)
  /-- A.SET.NE (R458) -/
  | aSetNe (rd rc rb : Reg)
  /-- A.SUB (R459) -/
  | aSub (rd rc rb : Reg)
  /-- A.SUB.O (R460) -/
  | aSubO (rd rc rb : Reg)
  /-- A.SUB.U.O (R461) -/
  | aSubUO (rd rc rb : Reg)
  /-- A.SHL.I.ADD (R462) -/
  | aShlIAdd (rd rc rb : Reg) (amount : Nat)
  /-- A.SHL.I.SUB (R463) -/
  | aShlISub (rd rc rb : Reg) (amount : Nat)
  /-- A.SHL.I (R464) -/
  | aShlI (rd rc : Reg) (simm : BitVec 6)
  /-- A.SHL.I.O (R465) -/
  | aShlIO (rd rc : Reg) (simm : BitVec 6)
  /-- A.SHL.I.U.O (R466) -/
  | aShlIUO (rd rc : Reg) (simm : BitVec 6)
  /-- A.SHR.I (R467) -/
  | aShrI (rd rc : Reg) (simm : BitVec 6)
  /-- A.SHR.I.U (R468) -/
  | aShrIU (rd rc : Reg) (simm : BitVec 6)
  /-- A.MUX (R469) -/
  | aMux (rd rc rb ra : Reg)
  /-- B (R510) -/
  | b (rd rc rb : Reg)
  /-- B.BACK (R520) -/
  | bBack (rd rc rb : Reg)
  /-- B.BARRIER (R521) -/
  | bBarrier (rd rc rb : Reg)
  /-- B.AND.E (R522) -/
  | bAndE (rd rc : Reg) (offset : BitVec 12)
  /-- B.AND.NE (R523) -/
  | bAndNe (rd rc : Reg) (offset : BitVec 12)
  /-- B.E (R524) -/
  | bE (rd rc : Reg) (offset : BitVec 12)
  /-- B.GE (R525) -/
  | bGe (rd rc : Reg) (offset : BitVec 12)
  /-- B.L (R526) -/
  | bL (rd rc : Reg) (offset : BitVec 12)
  /-- B.NE (R527) -/
  | bNe (rd rc : Reg) (offset : BitVec 12)
  /-- B.GE.U (R528) -/
  | bGeU (rd rc : Reg) (offset : BitVec 12)
  /-- B.L.U (R529) -/
  | bLU (rd rc : Reg) (offset : BitVec 12)
  /-- B.E.F.16 (R530) -/
  | bEF16 (rd rc : Reg) (offset : BitVec 12)
  /-- B.E.F.32 (R531) -/
  | bEF32 (rd rc : Reg) (offset : BitVec 12)
  /-- B.E.F.64 (R532) -/
  | bEF64 (rd rc : Reg) (offset : BitVec 12)
  /-- B.E.F.128 (R533) -/
  | bEF128 (rd rc : Reg) (offset : BitVec 12)
  /-- B.GE.F.16 (R534) -/
  | bGeF16 (rd rc : Reg) (offset : BitVec 12)
  /-- B.GE.F.32 (R535) -/
  | bGeF32 (rd rc : Reg) (offset : BitVec 12)
  /-- B.GE.F.64 (R536) -/
  | bGeF64 (rd rc : Reg) (offset : BitVec 12)
  /-- B.GE.F.128 (R537) -/
  | bGeF128 (rd rc : Reg) (offset : BitVec 12)
  /-- B.L.F.16 (R538) -/
  | bLF16 (rd rc : Reg) (offset : BitVec 12)
  /-- B.L.F.32 (R539) -/
  | bLF32 (rd rc : Reg) (offset : BitVec 12)
  /-- B.L.F.64 (R540) -/
  | bLF64 (rd rc : Reg) (offset : BitVec 12)
  /-- B.L.F.128 (R541) -/
  | bLF128 (rd rc : Reg) (offset : BitVec 12)
  /-- B.LG.F.16 (R542) -/
  | bLgF16 (rd rc : Reg) (offset : BitVec 12)
  /-- B.LG.F.32 (R543) -/
  | bLgF32 (rd rc : Reg) (offset : BitVec 12)
  /-- B.LG.F.64 (R544) -/
  | bLgF64 (rd rc : Reg) (offset : BitVec 12)
  /-- B.LG.F.128 (R545) -/
  | bLgF128 (rd rc : Reg) (offset : BitVec 12)
  /-- B.I.F.32 (R546) -/
  | bIF32 (rd rc : Reg) (offset : BitVec 12)
  /-- B.NI.F.32 (R547) -/
  | bNiF32 (rd rc : Reg) (offset : BitVec 12)
  /-- B.NV.F.32 (R548) -/
  | bNvF32 (rd rc : Reg) (offset : BitVec 12)
  /-- B.V.F.32 (R549) -/
  | bVF32 (rd rc : Reg) (offset : BitVec 12)
  /-- B.DOWN (R555) -/
  | bDown (rd rc rb : Reg)
  /-- B.GATE (R560) -/
  | bGate (rd rc rb : Reg)
  /-- B.HALT (R565) -/
  | bHalt (rd rc rb : Reg)
  /-- B.HINT (R568) -/
  | bHint (rd : Reg) (count simm : BitVec 6)
  /-- B.HINT.I (R569) -/
  | bHintI (simm count : BitVec 6) (offset : BitVec 12)
  /-- B.I (R574) -/
  | bI (offset : BitVec 24)
  /-- B.LINK.I (R575) -/
  | bLinkI (offset : BitVec 24)
  /-- B.LINK (R576) -/
  | bLink (rd rc rb : Reg)
  /-- S.D.C.S.64.A.B (R610) -/
  | sDCS64AB (rd rc rb : Reg)
  /-- S.D.C.S.64.A.L (R611) -/
  | sDCS64AL (rd rc rb : Reg)
  /-- S.A.S.I.64.A.B (R620) -/
  | sASI64AB (rd rc : Reg) (offset : BitVec 12)
  /-- S.A.S.I.64.A.L (R621) -/
  | sASI64AL (rd rc : Reg) (offset : BitVec 12)
  /-- S.C.S.I.64.A.B (R622) -/
  | sCSI64AB (rd rc : Reg) (offset : BitVec 12)
  /-- S.C.S.I.64.A.L (R623) -/
  | sCSI64AL (rd rc : Reg) (offset : BitVec 12)
  /-- S.M.S.I.64.A.B (R624) -/
  | sMSI64AB (rd rc : Reg) (offset : BitVec 12)
  /-- S.M.S.I.64.A.L (R625) -/
  | sMSI64AL (rd rc : Reg) (offset : BitVec 12)
  /-- S.A.S.64.A.B (R630) -/
  | sAS64AB (rd rc rb : Reg)
  /-- S.A.S.64.A.L (R631) -/
  | sAS64AL (rd rc rb : Reg)
  /-- S.C.S.64.A.B (R632) -/
  | sCS64AB (rd rc rb : Reg)
  /-- S.C.S.64.A.L (R633) -/
  | sCS64AL (rd rc rb : Reg)
  /-- S.M.S.64.A.B (R634) -/
  | sMS64AB (rd rc rb : Reg)
  /-- S.M.S.64.A.L (R635) -/
  | sMS64AL (rd rc rb : Reg)
  /-- G.ADD.H.8.C (R710) -/
  | gAddH8C (rd rc rb : Reg)
  /-- G.ADD.H.8.F (R711) -/
  | gAddH8F (rd rc rb : Reg)
  /-- G.ADD.H.8.N (R712) -/
  | gAddH8N (rd rc rb : Reg)
  /-- G.ADD.H.8.Z (R713) -/
  | gAddH8Z (rd rc rb : Reg)
  /-- G.ADD.H.16.C (R714) -/
  | gAddH16C (rd rc rb : Reg)
  /-- G.ADD.H.16.F (R715) -/
  | gAddH16F (rd rc rb : Reg)
  /-- G.ADD.H.16.N (R716) -/
  | gAddH16N (rd rc rb : Reg)
  /-- G.ADD.H.16.Z (R717) -/
  | gAddH16Z (rd rc rb : Reg)
  /-- G.ADD.H.32.C (R718) -/
  | gAddH32C (rd rc rb : Reg)
  /-- G.ADD.H.32.F (R719) -/
  | gAddH32F (rd rc rb : Reg)
  /-- G.ADD.H.32.N (R720) -/
  | gAddH32N (rd rc rb : Reg)
  /-- G.ADD.H.32.Z (R721) -/
  | gAddH32Z (rd rc rb : Reg)
  /-- G.ADD.H.64.C (R722) -/
  | gAddH64C (rd rc rb : Reg)
  /-- G.ADD.H.64.F (R723) -/
  | gAddH64F (rd rc rb : Reg)
  /-- G.ADD.H.64.N (R724) -/
  | gAddH64N (rd rc rb : Reg)
  /-- G.ADD.H.64.Z (R725) -/
  | gAddH64Z (rd rc rb : Reg)
  /-- G.ADD.H.128.C (R726) -/
  | gAddH128C (rd rc rb : Reg)
  /-- G.ADD.H.128.F (R727) -/
  | gAddH128F (rd rc rb : Reg)
  /-- G.ADD.H.128.N (R728) -/
  | gAddH128N (rd rc rb : Reg)
  /-- G.ADD.H.128.Z (R729) -/
  | gAddH128Z (rd rc rb : Reg)
  /-- G.ADD.H.U.8.C (R730) -/
  | gAddHU8C (rd rc rb : Reg)
  /-- G.ADD.H.U.8.F (R731) -/
  | gAddHU8F (rd rc rb : Reg)
  /-- G.ADD.H.U.8.N (R732) -/
  | gAddHU8N (rd rc rb : Reg)
  /-- G.ADD.H.U.16.C (R733) -/
  | gAddHU16C (rd rc rb : Reg)
  /-- G.ADD.H.U.16.F (R734) -/
  | gAddHU16F (rd rc rb : Reg)
  /-- G.ADD.H.U.16.N (R735) -/
  | gAddHU16N (rd rc rb : Reg)
  /-- G.ADD.H.U.32.C (R736) -/
  | gAddHU32C (rd rc rb : Reg)
  /-- G.ADD.H.U.32.F (R737) -/
  | gAddHU32F (rd rc rb : Reg)
  /-- G.ADD.H.U.32.N (R738) -/
  | gAddHU32N (rd rc rb : Reg)
  /-- G.ADD.H.U.64.C (R739) -/
  | gAddHU64C (rd rc rb : Reg)
  /-- G.ADD.H.U.64.F (R740) -/
  | gAddHU64F (rd rc rb : Reg)
  /-- G.ADD.H.U.64.N (R741) -/
  | gAddHU64N (rd rc rb : Reg)
  /-- G.ADD.H.U.128.C (R742) -/
  | gAddHU128C (rd rc rb : Reg)
  /-- G.ADD.H.U.128.F (R743) -/
  | gAddHU128F (rd rc rb : Reg)
  /-- G.ADD.H.U.128.N (R744) -/
  | gAddHU128N (rd rc rb : Reg)
  /-- G.COPY.I.16 (R750) -/
  | gCopyI16 (sign : BitVec 1) (rd : Reg) (imm : BitVec 16)
  /-- G.COPY.I.32 (R751) -/
  | gCopyI32 (sign : BitVec 1) (rd : Reg) (imm : BitVec 16)
  /-- G.COPY.I.64 (R752) -/
  | gCopyI64 (sign : BitVec 1) (rd : Reg) (imm : BitVec 16)
  /-- G.COPY.I.128 (R753) -/
  | gCopyI128 (sign : BitVec 1) (rd : Reg) (imm : BitVec 16)
  /-- G.AAA.8 (R761) -/
  | gAaa8 (rd rc rb : Reg)
  /-- G.AAA.16 (R762) -/
  | gAaa16 (rd rc rb : Reg)
  /-- G.AAA.32 (R763) -/
  | gAaa32 (rd rc rb : Reg)
  /-- G.AAA.64 (R764) -/
  | gAaa64 (rd rc rb : Reg)
  /-- G.AAA.128 (R765) -/
  | gAaa128 (rd rc rb : Reg)
  /-- G.ASA.8 (R766) -/
  | gAsa8 (rd rc rb : Reg)
  /-- G.ASA.16 (R767) -/
  | gAsa16 (rd rc rb : Reg)
  /-- G.ASA.32 (R768) -/
  | gAsa32 (rd rc rb : Reg)
  /-- G.ASA.64 (R769) -/
  | gAsa64 (rd rc rb : Reg)
  /-- G.ASA.128 (R770) -/
  | gAsa128 (rd rc rb : Reg)
  /-- G.SHL.I.ADD.8 (R776) -/
  | gShlIAdd8 (rd rc rb : Reg) (amount : Nat)
  /-- G.SHL.I.ADD.16 (R777) -/
  | gShlIAdd16 (rd rc rb : Reg) (amount : Nat)
  /-- G.SHL.I.ADD.32 (R778) -/
  | gShlIAdd32 (rd rc rb : Reg) (amount : Nat)
  /-- G.SHL.I.ADD.64 (R779) -/
  | gShlIAdd64 (rd rc rb : Reg) (amount : Nat)
  /-- G.SHL.I.ADD.128 (R780) -/
  | gShlIAdd128 (rd rc rb : Reg) (amount : Nat)
  /-- G.SHL.I.SUB.8 (R786) -/
  | gShlISub8 (rd rc rb : Reg) (amount : Nat)
  /-- G.SHL.I.SUB.16 (R787) -/
  | gShlISub16 (rd rc rb : Reg) (amount : Nat)
  /-- G.SHL.I.SUB.32 (R788) -/
  | gShlISub32 (rd rc rb : Reg) (amount : Nat)
  /-- G.SHL.I.SUB.64 (R789) -/
  | gShlISub64 (rd rc rb : Reg) (amount : Nat)
  /-- G.SHL.I.SUB.128 (R790) -/
  | gShlISub128 (rd rc rb : Reg) (amount : Nat)
  /-- G.ADD.I.16 (R810) -/
  | gAddI16 (rd rc : Reg) (imm : BitVec 10)
  /-- G.ADD.I.16.O (R811) -/
  | gAddI16O (rd rc : Reg) (imm : BitVec 10)
  /-- G.ADD.I.32 (R812) -/
  | gAddI32 (rd rc : Reg) (imm : BitVec 10)
  /-- G.ADD.I.32.O (R813) -/
  | gAddI32O (rd rc : Reg) (imm : BitVec 10)
  /-- G.ADD.I.64 (R814) -/
  | gAddI64 (rd rc : Reg) (imm : BitVec 10)
  /-- G.ADD.I.64.O (R815) -/
  | gAddI64O (rd rc : Reg) (imm : BitVec 10)
  /-- G.ADD.I.128 (R816) -/
  | gAddI128 (rd rc : Reg) (imm : BitVec 10)
  /-- G.ADD.I.128.O (R817) -/
  | gAddI128O (rd rc : Reg) (imm : BitVec 10)
  /-- G.ADD.I.U.16.O (R818) -/
  | gAddIU16O (rd rc : Reg) (imm : BitVec 10)
  /-- G.ADD.I.U.32.O (R819) -/
  | gAddIU32O (rd rc : Reg) (imm : BitVec 10)
  /-- G.ADD.I.U.64.O (R820) -/
  | gAddIU64O (rd rc : Reg) (imm : BitVec 10)
  /-- G.ADD.I.U.128.O (R821) -/
  | gAddIU128O (rd rc : Reg) (imm : BitVec 10)
  /-- G.AND.I.16 (R822) -/
  | gAndI16 (rd rc : Reg) (imm : BitVec 10)
  /-- G.AND.I.32 (R823) -/
  | gAndI32 (rd rc : Reg) (imm : BitVec 10)
  /-- G.AND.I.64 (R824) -/
  | gAndI64 (rd rc : Reg) (imm : BitVec 10)
  /-- G.AND.I.128 (R825) -/
  | gAndI128 (rd rc : Reg) (imm : BitVec 10)
  /-- G.NAND.I.16 (R826) -/
  | gNandI16 (rd rc : Reg) (imm : BitVec 10)
  /-- G.NAND.I.32 (R827) -/
  | gNandI32 (rd rc : Reg) (imm : BitVec 10)
  /-- G.NAND.I.64 (R828) -/
  | gNandI64 (rd rc : Reg) (imm : BitVec 10)
  /-- G.NAND.I.128 (R829) -/
  | gNandI128 (rd rc : Reg) (imm : BitVec 10)
  /-- G.NOR.I.16 (R830) -/
  | gNorI16 (rd rc : Reg) (imm : BitVec 10)
  /-- G.NOR.I.32 (R831) -/
  | gNorI32 (rd rc : Reg) (imm : BitVec 10)
  /-- G.NOR.I.64 (R832) -/
  | gNorI64 (rd rc : Reg) (imm : BitVec 10)
  /-- G.NOR.I.128 (R833) -/
  | gNorI128 (rd rc : Reg) (imm : BitVec 10)
  /-- G.OR.I.16 (R834) -/
  | gOrI16 (rd rc : Reg) (imm : BitVec 10)
  /-- G.OR.I.32 (R835) -/
  | gOrI32 (rd rc : Reg) (imm : BitVec 10)
  /-- G.OR.I.64 (R836) -/
  | gOrI64 (rd rc : Reg) (imm : BitVec 10)
  /-- G.OR.I.128 (R837) -/
  | gOrI128 (rd rc : Reg) (imm : BitVec 10)
  /-- G.XOR.I.16 (R838) -/
  | gXorI16 (rd rc : Reg) (imm : BitVec 10)
  /-- G.XOR.I.32 (R839) -/
  | gXorI32 (rd rc : Reg) (imm : BitVec 10)
  /-- G.XOR.I.64 (R840) -/
  | gXorI64 (rd rc : Reg) (imm : BitVec 10)
  /-- G.XOR.I.128 (R841) -/
  | gXorI128 (rd rc : Reg) (imm : BitVec 10)
  /-- G.SET.AND.E.I.16 (R850) -/
  | gSetAndEI16 (rd rc : Reg) (imm : BitVec 10)
  /-- G.SET.AND.E.I.32 (R851) -/
  | gSetAndEI32 (rd rc : Reg) (imm : BitVec 10)
  /-- G.SET.AND.E.I.64 (R852) -/
  | gSetAndEI64 (rd rc : Reg) (imm : BitVec 10)
  /-- G.SET.AND.E.I.128 (R853) -/
  | gSetAndEI128 (rd rc : Reg) (imm : BitVec 10)
  /-- G.SET.AND.NE.I.16 (R854) -/
  | gSetAndNeI16 (rd rc : Reg) (imm : BitVec 10)
  /-- G.SET.AND.NE.I.32 (R855) -/
  | gSetAndNeI32 (rd rc : Reg) (imm : BitVec 10)
  /-- G.SET.AND.NE.I.64 (R856) -/
  | gSetAndNeI64 (rd rc : Reg) (imm : BitVec 10)
  /-- G.SET.AND.NE.I.128 (R857) -/
  | gSetAndNeI128 (rd rc : Reg) (imm : BitVec 10)
  /-- G.SET.E.I.16 (R858) -/
  | gSetEI16 (rd rc : Reg) (imm : BitVec 10)
  /-- G.SET.E.I.32 (R859) -/
  | gSetEI32 (rd rc : Reg) (imm : BitVec 10)
  /-- G.SET.E.I.64 (R860) -/
  | gSetEI64 (rd rc : Reg) (imm : BitVec 10)
  /-- G.SET.E.I.128 (R861) -/
  | gSetEI128 (rd rc : Reg) (imm : BitVec 10)
  /-- G.SET.GE.I.16 (R862) -/
  | gSetGeI16 (rd rc : Reg) (imm : BitVec 10)
  /-- G.SET.GE.I.32 (R863) -/
  | gSetGeI32 (rd rc : Reg) (imm : BitVec 10)
  /-- G.SET.GE.I.64 (R864) -/
  | gSetGeI64 (rd rc : Reg) (imm : BitVec 10)
  /-- G.SET.GE.I.128 (R865) -/
  | gSetGeI128 (rd rc : Reg) (imm : BitVec 10)
  /-- G.SET.GE.I.U.16 (R866) -/
  | gSetGeIU16 (rd rc : Reg) (imm : BitVec 10)
  /-- G.SET.GE.I.U.32 (R867) -/
  | gSetGeIU32 (rd rc : Reg) (imm : BitVec 10)
  /-- G.SET.GE.I.U.64 (R868) -/
  | gSetGeIU64 (rd rc : Reg) (imm : BitVec 10)
  /-- G.SET.GE.I.U.128 (R869) -/
  | gSetGeIU128 (rd rc : Reg) (imm : BitVec 10)
  /-- G.SET.L.I.16 (R870) -/
  | gSetLI16 (rd rc : Reg) (imm : BitVec 10)
  /-- G.SET.L.I.32 (R871) -/
  | gSetLI32 (rd rc : Reg) (imm : BitVec 10)
  /-- G.SET.L.I.64 (R872) -/
  | gSetLI64 (rd rc : Reg) (imm : BitVec 10)
  /-- G.SET.L.I.128 (R873) -/
  | gSetLI128 (rd rc : Reg) (imm : BitVec 10)
  /-- G.SET.L.I.U.16 (R874) -/
  | gSetLIU16 (rd rc : Reg) (imm : BitVec 10)
  /-- G.SET.L.I.U.32 (R875) -/
  | gSetLIU32 (rd rc : Reg) (imm : BitVec 10)
  /-- G.SET.L.I.U.64 (R876) -/
  | gSetLIU64 (rd rc : Reg) (imm : BitVec 10)
  /-- G.SET.L.I.U.128 (R877) -/
  | gSetLIU128 (rd rc : Reg) (imm : BitVec 10)
  /-- G.SET.NE.I.16 (R878) -/
  | gSetNeI16 (rd rc : Reg) (imm : BitVec 10)
  /-- G.SET.NE.I.32 (R879) -/
  | gSetNeI32 (rd rc : Reg) (imm : BitVec 10)
  /-- G.SET.NE.I.64 (R880) -/
  | gSetNeI64 (rd rc : Reg) (imm : BitVec 10)
  /-- G.SET.NE.I.128 (R881) -/
  | gSetNeI128 (rd rc : Reg) (imm : BitVec 10)
  /-- G.SUB.I.16 (R882) -/
  | gSubI16 (rd rc : Reg) (imm : BitVec 10)
  /-- G.SUB.I.16.O (R883) -/
  | gSubI16O (rd rc : Reg) (imm : BitVec 10)
  /-- G.SUB.I.32 (R884) -/
  | gSubI32 (rd rc : Reg) (imm : BitVec 10)
  /-- G.SUB.I.32.O (R885) -/
  | gSubI32O (rd rc : Reg) (imm : BitVec 10)
  /-- G.SUB.I.64 (R886) -/
  | gSubI64 (rd rc : Reg) (imm : BitVec 10)
  /-- G.SUB.I.64.O (R887) -/
  | gSubI64O (rd rc : Reg) (imm : BitVec 10)
  /-- G.SUB.I.128 (R888) -/
  | gSubI128 (rd rc : Reg) (imm : BitVec 10)
  /-- G.SUB.I.128.O (R889) -/
  | gSubI128O (rd rc : Reg) (imm : BitVec 10)
  /-- G.SUB.I.U.16.O (R890) -/
  | gSubIU16O (rd rc : Reg) (imm : BitVec 10)
  /-- G.SUB.I.U.32.O (R891) -/
  | gSubIU32O (rd rc : Reg) (imm : BitVec 10)
  /-- G.SUB.I.U.64.O (R892) -/
  | gSubIU64O (rd rc : Reg) (imm : BitVec 10)
  /-- G.SUB.I.U.128.O (R893) -/
  | gSubIU128O (rd rc : Reg) (imm : BitVec 10)
deriving DecidableEq, Repr

end Sys2Proof
end

