-- ==== Sys2Proof/WellFormed.lean ====
section
/-! DEFINITION. Which terms of the syntax are instructions.  Every field has the width of its encoding by its type; the one
check left is the assembler's `assert 1 ≤ i ≤ 4` on the count of a shift-and-add (30_encoding.md rule R149). -/

namespace Sys2Proof

/-- The count of a shift-and-add can be encoded as `sh = i - 1` in two bits (30_encoding.md rule R149,
93_implementation_defined.md U12). -/
def shiftAmountOk (amount : Nat) : Bool := 1 ≤ amount && amount ≤ 4

/-- The instruction can be written as a word. -/
def Instr.wellFormed : Instr → Bool
  | .aShlIAdd _ _ _ amount => shiftAmountOk amount
  | .aShlISub _ _ _ amount => shiftAmountOk amount
  | .gShlIAdd8 _ _ _ amount => shiftAmountOk amount
  | .gShlIAdd16 _ _ _ amount => shiftAmountOk amount
  | .gShlIAdd32 _ _ _ amount => shiftAmountOk amount
  | .gShlIAdd64 _ _ _ amount => shiftAmountOk amount
  | .gShlIAdd128 _ _ _ amount => shiftAmountOk amount
  | .gShlISub8 _ _ _ amount => shiftAmountOk amount
  | .gShlISub16 _ _ _ amount => shiftAmountOk amount
  | .gShlISub32 _ _ _ amount => shiftAmountOk amount
  | .gShlISub64 _ _ _ amount => shiftAmountOk amount
  | .gShlISub128 _ _ _ amount => shiftAmountOk amount
  | .l8 _ _ _ => true
  | .l16B _ _ _ => true
  | .l16AB _ _ _ => true
  | .l16L _ _ _ => true
  | .l16AL _ _ _ => true
  | .l32B _ _ _ => true
  | .l32AB _ _ _ => true
  | .l32L _ _ _ => true
  | .l32AL _ _ _ => true
  | .l64B _ _ _ => true
  | .l64AB _ _ _ => true
  | .l64L _ _ _ => true
  | .l64AL _ _ _ => true
  | .l128B _ _ _ => true
  | .l128AB _ _ _ => true
  | .l128L _ _ _ => true
  | .l128AL _ _ _ => true
  | .lU8 _ _ _ => true
  | .lU16B _ _ _ => true
  | .lU16AB _ _ _ => true
  | .lU16L _ _ _ => true
  | .lU16AL _ _ _ => true
  | .lU32B _ _ _ => true
  | .lU32AB _ _ _ => true
  | .lU32L _ _ _ => true
  | .lU32AL _ _ _ => true
  | .lU64B _ _ _ => true
  | .lU64AB _ _ _ => true
  | .lU64L _ _ _ => true
  | .lU64AL _ _ _ => true
  | .lI8 _ _ _ => true
  | .lI16AB _ _ _ => true
  | .lI16B _ _ _ => true
  | .lI16AL _ _ _ => true
  | .lI16L _ _ _ => true
  | .lI32AB _ _ _ => true
  | .lI32B _ _ _ => true
  | .lI32AL _ _ _ => true
  | .lI32L _ _ _ => true
  | .lI64AB _ _ _ => true
  | .lI64B _ _ _ => true
  | .lI64AL _ _ _ => true
  | .lI64L _ _ _ => true
  | .lI128AB _ _ _ => true
  | .lI128B _ _ _ => true
  | .lI128AL _ _ _ => true
  | .lI128L _ _ _ => true
  | .lIU8 _ _ _ => true
  | .lIU16AB _ _ _ => true
  | .lIU16B _ _ _ => true
  | .lIU16AL _ _ _ => true
  | .lIU16L _ _ _ => true
  | .lIU32AB _ _ _ => true
  | .lIU32B _ _ _ => true
  | .lIU32AL _ _ _ => true
  | .lIU32L _ _ _ => true
  | .lIU64AB _ _ _ => true
  | .lIU64B _ _ _ => true
  | .lIU64AL _ _ _ => true
  | .lIU64L _ _ _ => true
  | .s8 _ _ _ => true
  | .s16B _ _ _ => true
  | .s16AB _ _ _ => true
  | .s16L _ _ _ => true
  | .s16AL _ _ _ => true
  | .s32B _ _ _ => true
  | .s32AB _ _ _ => true
  | .s32L _ _ _ => true
  | .s32AL _ _ _ => true
  | .s64B _ _ _ => true
  | .s64AB _ _ _ => true
  | .s64L _ _ _ => true
  | .s64AL _ _ _ => true
  | .s128B _ _ _ => true
  | .s128AB _ _ _ => true
  | .s128L _ _ _ => true
  | .s128AL _ _ _ => true
  | .sMux64AB _ _ _ => true
  | .sMux64AL _ _ _ => true
  | .sI8 _ _ _ => true
  | .sI16AB _ _ _ => true
  | .sI16B _ _ _ => true
  | .sI16AL _ _ _ => true
  | .sI16L _ _ _ => true
  | .sI32AB _ _ _ => true
  | .sI32B _ _ _ => true
  | .sI32AL _ _ _ => true
  | .sI32L _ _ _ => true
  | .sI64AB _ _ _ => true
  | .sI64B _ _ _ => true
  | .sI64AL _ _ _ => true
  | .sI64L _ _ _ => true
  | .sI128AB _ _ _ => true
  | .sI128B _ _ _ => true
  | .sI128AL _ _ _ => true
  | .sI128L _ _ _ => true
  | .sMuxi64AB _ _ _ => true
  | .sMuxi64AL _ _ _ => true
  | .aRes _ => true
  | .aAdd _ _ _ => true
  | .aAddO _ _ _ => true
  | .aAddUO _ _ _ => true
  | .aAnd _ _ _ => true
  | .aAndn _ _ _ => true
  | .aNand _ _ _ => true
  | .aNor _ _ _ => true
  | .aOr _ _ _ => true
  | .aOrn _ _ _ => true
  | .aXnor _ _ _ => true
  | .aXor _ _ _ => true
  | .aComAndE _ _ => true
  | .aComAndNe _ _ => true
  | .aComE _ _ => true
  | .aComGe _ _ => true
  | .aComGeU _ _ => true
  | .aComL _ _ => true
  | .aComLU _ _ => true
  | .aComNe _ _ => true
  | .aCopyI _ _ => true
  | .aAddI _ _ _ => true
  | .aAddIO _ _ _ => true
  | .aAddIUO _ _ _ => true
  | .aAndI _ _ _ => true
  | .aNandI _ _ _ => true
  | .aNorI _ _ _ => true
  | .aOrI _ _ _ => true
  | .aXorI _ _ _ => true
  | .aSetAndEI _ _ _ => true
  | .aSetAndNeI _ _ _ => true
  | .aSetEI _ _ _ => true
  | .aSetGeI _ _ _ => true
  | .aSetLI _ _ _ => true
  | .aSetNeI _ _ _ => true
  | .aSetGeIU _ _ _ => true
  | .aSetLIU _ _ _ => true
  | .aSubI _ _ _ => true
  | .aSubIO _ _ _ => true
  | .aSubIUO _ _ _ => true
  | .aSetAndE _ _ _ => true
  | .aSetAndNe _ _ _ => true
  | .aSetE _ _ _ => true
  | .aSetGe _ _ _ => true
  | .aSetGeU _ _ _ => true
  | .aSetL _ _ _ => true
  | .aSetLU _ _ _ => true
  | .aSetNe _ _ _ => true
  | .aSub _ _ _ => true
  | .aSubO _ _ _ => true
  | .aSubUO _ _ _ => true
  | .aShlI _ _ _ => true
  | .aShlIO _ _ _ => true
  | .aShlIUO _ _ _ => true
  | .aShrI _ _ _ => true
  | .aShrIU _ _ _ => true
  | .aMux _ _ _ _ => true
  | .b _ _ _ => true
  | .bBack _ _ _ => true
  | .bBarrier _ _ _ => true
  | .bAndE _ _ _ => true
  | .bAndNe _ _ _ => true
  | .bE _ _ _ => true
  | .bGe _ _ _ => true
  | .bL _ _ _ => true
  | .bNe _ _ _ => true
  | .bGeU _ _ _ => true
  | .bLU _ _ _ => true
  | .bEF16 _ _ _ => true
  | .bEF32 _ _ _ => true
  | .bEF64 _ _ _ => true
  | .bEF128 _ _ _ => true
  | .bGeF16 _ _ _ => true
  | .bGeF32 _ _ _ => true
  | .bGeF64 _ _ _ => true
  | .bGeF128 _ _ _ => true
  | .bLF16 _ _ _ => true
  | .bLF32 _ _ _ => true
  | .bLF64 _ _ _ => true
  | .bLF128 _ _ _ => true
  | .bLgF16 _ _ _ => true
  | .bLgF32 _ _ _ => true
  | .bLgF64 _ _ _ => true
  | .bLgF128 _ _ _ => true
  | .bIF32 _ _ _ => true
  | .bNiF32 _ _ _ => true
  | .bNvF32 _ _ _ => true
  | .bVF32 _ _ _ => true
  | .bDown _ _ _ => true
  | .bGate _ _ _ => true
  | .bHalt _ _ _ => true
  | .bHint _ _ _ => true
  | .bHintI _ _ _ => true
  | .bI _ => true
  | .bLinkI _ => true
  | .bLink _ _ _ => true
  | .sDCS64AB _ _ _ => true
  | .sDCS64AL _ _ _ => true
  | .sASI64AB _ _ _ => true
  | .sASI64AL _ _ _ => true
  | .sCSI64AB _ _ _ => true
  | .sCSI64AL _ _ _ => true
  | .sMSI64AB _ _ _ => true
  | .sMSI64AL _ _ _ => true
  | .sAS64AB _ _ _ => true
  | .sAS64AL _ _ _ => true
  | .sCS64AB _ _ _ => true
  | .sCS64AL _ _ _ => true
  | .sMS64AB _ _ _ => true
  | .sMS64AL _ _ _ => true
  | .gAddH8C _ _ _ => true
  | .gAddH8F _ _ _ => true
  | .gAddH8N _ _ _ => true
  | .gAddH8Z _ _ _ => true
  | .gAddH16C _ _ _ => true
  | .gAddH16F _ _ _ => true
  | .gAddH16N _ _ _ => true
  | .gAddH16Z _ _ _ => true
  | .gAddH32C _ _ _ => true
  | .gAddH32F _ _ _ => true
  | .gAddH32N _ _ _ => true
  | .gAddH32Z _ _ _ => true
  | .gAddH64C _ _ _ => true
  | .gAddH64F _ _ _ => true
  | .gAddH64N _ _ _ => true
  | .gAddH64Z _ _ _ => true
  | .gAddH128C _ _ _ => true
  | .gAddH128F _ _ _ => true
  | .gAddH128N _ _ _ => true
  | .gAddH128Z _ _ _ => true
  | .gAddHU8C _ _ _ => true
  | .gAddHU8F _ _ _ => true
  | .gAddHU8N _ _ _ => true
  | .gAddHU16C _ _ _ => true
  | .gAddHU16F _ _ _ => true
  | .gAddHU16N _ _ _ => true
  | .gAddHU32C _ _ _ => true
  | .gAddHU32F _ _ _ => true
  | .gAddHU32N _ _ _ => true
  | .gAddHU64C _ _ _ => true
  | .gAddHU64F _ _ _ => true
  | .gAddHU64N _ _ _ => true
  | .gAddHU128C _ _ _ => true
  | .gAddHU128F _ _ _ => true
  | .gAddHU128N _ _ _ => true
  | .gCopyI16 _ _ _ => true
  | .gCopyI32 _ _ _ => true
  | .gCopyI64 _ _ _ => true
  | .gCopyI128 _ _ _ => true
  | .gAaa8 _ _ _ => true
  | .gAaa16 _ _ _ => true
  | .gAaa32 _ _ _ => true
  | .gAaa64 _ _ _ => true
  | .gAaa128 _ _ _ => true
  | .gAsa8 _ _ _ => true
  | .gAsa16 _ _ _ => true
  | .gAsa32 _ _ _ => true
  | .gAsa64 _ _ _ => true
  | .gAsa128 _ _ _ => true
  | .gAddI16 _ _ _ => true
  | .gAddI16O _ _ _ => true
  | .gAddI32 _ _ _ => true
  | .gAddI32O _ _ _ => true
  | .gAddI64 _ _ _ => true
  | .gAddI64O _ _ _ => true
  | .gAddI128 _ _ _ => true
  | .gAddI128O _ _ _ => true
  | .gAddIU16O _ _ _ => true
  | .gAddIU32O _ _ _ => true
  | .gAddIU64O _ _ _ => true
  | .gAddIU128O _ _ _ => true
  | .gAndI16 _ _ _ => true
  | .gAndI32 _ _ _ => true
  | .gAndI64 _ _ _ => true
  | .gAndI128 _ _ _ => true
  | .gNandI16 _ _ _ => true
  | .gNandI32 _ _ _ => true
  | .gNandI64 _ _ _ => true
  | .gNandI128 _ _ _ => true
  | .gNorI16 _ _ _ => true
  | .gNorI32 _ _ _ => true
  | .gNorI64 _ _ _ => true
  | .gNorI128 _ _ _ => true
  | .gOrI16 _ _ _ => true
  | .gOrI32 _ _ _ => true
  | .gOrI64 _ _ _ => true
  | .gOrI128 _ _ _ => true
  | .gXorI16 _ _ _ => true
  | .gXorI32 _ _ _ => true
  | .gXorI64 _ _ _ => true
  | .gXorI128 _ _ _ => true
  | .gSetAndEI16 _ _ _ => true
  | .gSetAndEI32 _ _ _ => true
  | .gSetAndEI64 _ _ _ => true
  | .gSetAndEI128 _ _ _ => true
  | .gSetAndNeI16 _ _ _ => true
  | .gSetAndNeI32 _ _ _ => true
  | .gSetAndNeI64 _ _ _ => true
  | .gSetAndNeI128 _ _ _ => true
  | .gSetEI16 _ _ _ => true
  | .gSetEI32 _ _ _ => true
  | .gSetEI64 _ _ _ => true
  | .gSetEI128 _ _ _ => true
  | .gSetGeI16 _ _ _ => true
  | .gSetGeI32 _ _ _ => true
  | .gSetGeI64 _ _ _ => true
  | .gSetGeI128 _ _ _ => true
  | .gSetGeIU16 _ _ _ => true
  | .gSetGeIU32 _ _ _ => true
  | .gSetGeIU64 _ _ _ => true
  | .gSetGeIU128 _ _ _ => true
  | .gSetLI16 _ _ _ => true
  | .gSetLI32 _ _ _ => true
  | .gSetLI64 _ _ _ => true
  | .gSetLI128 _ _ _ => true
  | .gSetLIU16 _ _ _ => true
  | .gSetLIU32 _ _ _ => true
  | .gSetLIU64 _ _ _ => true
  | .gSetLIU128 _ _ _ => true
  | .gSetNeI16 _ _ _ => true
  | .gSetNeI32 _ _ _ => true
  | .gSetNeI64 _ _ _ => true
  | .gSetNeI128 _ _ _ => true
  | .gSubI16 _ _ _ => true
  | .gSubI16O _ _ _ => true
  | .gSubI32 _ _ _ => true
  | .gSubI32O _ _ _ => true
  | .gSubI64 _ _ _ => true
  | .gSubI64O _ _ _ => true
  | .gSubI128 _ _ _ => true
  | .gSubI128O _ _ _ => true
  | .gSubIU16O _ _ _ => true
  | .gSubIU32O _ _ _ => true
  | .gSubIU64O _ _ _ => true
  | .gSubIU128O _ _ _ => true

/-- The instruction can be written as a word, as a proposition. -/
abbrev Instr.WellFormed (i : Instr) : Prop := i.wellFormed = true

end Sys2Proof
end

