-- ==== Sys2Proof/Decode.lean ====
section
/-! DEFINITION. Decoding and encoding of instruction words.  Field positions are those of 30_encoding.md rule R133; the
values of the operation codes are a parameter (30_encoding.md rule R134), so the decoder and the encoder take an
`OpcodeMap`, and `decode` and `encode` are their instances at the model's own map, which is that of `State.reset`.

`noncomputable` here means only that Lean makes no native code: its runtime has no object tag above 244 and `Instr` has
345 constructors.  The kernel evaluates all of it; `Machine/Native.lean` gives `step` native code. -/

namespace Sys2Proof

/-- What a word stands for. -/
inductive Decoded where
  /-- an instruction -/
  | instr (i : Instr)
  /-- an encoding the source defines as raising "Reserved Instruction" and names no instruction for
  (30_encoding.md rule R160) -/
  | reserved
  /-- a word the map assigns to no instruction (30_encoding.md rule R161) -/
  | unassigned
deriving DecidableEq, Repr

/-- The `n`-bit field of a word whose lowest bit is bit `lo`. -/
def fieldOf (w : Word) (lo n : Nat) : BitVec n := w.extractLsb' lo n

/-- A field placed with its lowest bit at bit `lo` of a word. -/
def placed {n : Nat} (v : BitVec n) (lo : Nat) : Word := v.setWidth 32 <<< lo

/-- One assigned encoding: which bits hold its operation code, what a word with that code stands for, and which of the
code's bits the size in the mnemonic fixes, and to what (30_encoding.md rule R134: `fixed_mask` and `fixed_match` of
spec/opcode_table.json). -/
structure Row where
  mask : Word
  build : Word → Decoded
  fixedMask : Word := 0#32
  fixedMatch : Word := 0#32

/-- Formats RRR, RRR-rev, BR, SHIFT and HINT: three 6-bit fields at 23..18, 17..12 and 11..6, a minor code at 5..0. -/
def r3 (mk : BitVec 6 → BitVec 6 → BitVec 6 → Instr) : Row :=
  { mask := 0xFF00003F#32
    build := fun w => .instr (mk (fieldOf w 18 6) (fieldOf w 12 6) (fieldOf w 6 6)) }

/-- An encoding of format RRR that is reserved. -/
def r3Reserved : Row := { mask := 0xFF00003F#32, build := fun _ => .reserved }

/-- Format RRRR: four 6-bit fields. -/
def r4 (mk : Reg → Reg → Reg → Reg → Instr) : Row :=
  { mask := 0xFF000000#32
    build := fun w => .instr (mk (fieldOf w 18 6) (fieldOf w 12 6) (fieldOf w 6 6) (fieldOf w 0 6)) }

/-- Format COM: `rd`, `rc` and the minor code, which spec/opcode_table.json, the field layout of 30_encoding.md rule
R134, gives as bits 11..0 of every A.COM row. -/
def com (mk : Reg → Reg → Instr) : Row :=
  { mask := 0xFF000FFF#32
    build := fun w => .instr (mk (fieldOf w 18 6) (fieldOf w 12 6)) }

/-- Formats RRI, RRI-rev, BRC and HINTI: two 6-bit fields and a 12-bit one. -/
def ri12 (mk : BitVec 6 → BitVec 6 → BitVec 12 → Instr) : Row :=
  { mask := 0xFF000000#32
    build := fun w => .instr (mk (fieldOf w 18 6) (fieldOf w 12 6) (fieldOf w 0 12)) }

/-- Format RI18: `rd` and an 18-bit immediate. -/
def ri18 (mk : Reg → BitVec 18 → Instr) : Row :=
  { mask := 0xFF000000#32
    build := fun w => .instr (mk (fieldOf w 18 6) (fieldOf w 0 18)) }

/-- Formats I24 and RES: a 24-bit field. -/
def i24 (mk : BitVec 24 → Instr) : Row :=
  { mask := 0xFF000000#32
    build := fun w => .instr (mk (fieldOf w 0 24)) }

/-- Format SHADD: three registers, a 4-bit minor code at 5..2, `sh` at 1..0; the count is `sh + 1`
(30_encoding.md rule R149). -/
def shadd (mk : Reg → Reg → Reg → Nat → Instr) : Row :=
  { mask := 0xFF00003C#32
    build := fun w =>
      .instr (mk (fieldOf w 18 6) (fieldOf w 12 6) (fieldOf w 6 6) ((fieldOf w 0 2).toNat + 1)) }

/-- The value of `sz` for a size, `log(size) - 4` (30_encoding.md rules R147 and R148). -/
def sizeCode : Nat → Word
  | 16 => 0#32
  | 32 => 1#32
  | 64 => 2#32
  | _ => 3#32

/-- Formats GI and GI-rev: two registers, `sz` at 11..10 as part of the code and fixed by the size, a 10-bit immediate
(30_encoding.md rule R147). -/
def gi (size : Nat) (mk : Reg → Reg → BitVec 10 → Instr) : Row :=
  { mask := 0xFF000C00#32
    build := fun w => .instr (mk (fieldOf w 18 6) (fieldOf w 12 6) (fieldOf w 0 10))
    fixedMask := 0xC00#32
    fixedMatch := sizeCode size <<< 10 }

/-- Format GCOPYI: `s` in bit 0 of the operation code, `rd`, `sz` at 17..16 as part of the code and fixed by the size, a
16-bit immediate (30_encoding.md rule R148). -/
def gcopy (size : Nat) (mk : BitVec 1 → Reg → BitVec 16 → Instr) : Row :=
  { mask := 0xFE030000#32
    build := fun w => .instr (mk (fieldOf w 24 1) (fieldOf w 18 6) (fieldOf w 0 16))
    fixedMask := 0x30000#32
    fixedMatch := sizeCode size <<< 16 }

/-- The rows of 40_load.md in the order of spec/opcode_table.json. -/
def loadRows : List Row :=
  [r3 .l8, r3 .l16B, r3 .l16AB, r3 .l16L, r3 .l16AL, r3 .l32B, r3 .l32AB, r3 .l32L, r3 .l32AL, r3 .l64B,
   r3 .l64AB, r3 .l64L, r3 .l64AL, r3 .l128B, r3 .l128AB, r3 .l128L, r3 .l128AL, r3 .lU8, r3 .lU16B,
   r3 .lU16AB, r3 .lU16L, r3 .lU16AL, r3 .lU32B, r3 .lU32AB, r3 .lU32L, r3 .lU32AL, r3 .lU64B, r3 .lU64AB,
   r3 .lU64L, r3 .lU64AL, ri12 .lI8, ri12 .lI16AB, ri12 .lI16B, ri12 .lI16AL, ri12 .lI16L, ri12 .lI32AB,
   ri12 .lI32B, ri12 .lI32AL, ri12 .lI32L, ri12 .lI64AB, ri12 .lI64B, ri12 .lI64AL, ri12 .lI64L,
   ri12 .lI128AB, ri12 .lI128B, ri12 .lI128AL, ri12 .lI128L, ri12 .lIU8, ri12 .lIU16AB, ri12 .lIU16B,
   ri12 .lIU16AL, ri12 .lIU16L, ri12 .lIU32AB, ri12 .lIU32B, ri12 .lIU32AL, ri12 .lIU32L, ri12 .lIU64AB,
   ri12 .lIU64B, ri12 .lIU64AL, ri12 .lIU64L]

/-- The operation-code values of the rows of 40_load.md.  DESIGN CHOICE (notes/assumptions/1.md). -/
def loadCodes : List Word :=
  [0x01000000, 0x01000001, 0x01000002, 0x01000003, 0x01000004, 0x01000005, 0x01000006, 0x01000007,
   0x01000008, 0x01000009, 0x0100000A, 0x0100000B, 0x0100000C, 0x0100000D, 0x0100000E, 0x0100000F,
   0x01000010, 0x01000011, 0x01000012, 0x01000013, 0x01000014, 0x01000015, 0x01000016, 0x01000017,
   0x01000018, 0x01000019, 0x0100001A, 0x0100001B, 0x0100001C, 0x0100001D, 0x02000000, 0x03000000,
   0x04000000, 0x05000000, 0x06000000, 0x07000000, 0x08000000, 0x09000000, 0x0A000000, 0x0B000000,
   0x0C000000, 0x0D000000, 0x0E000000, 0x0F000000, 0x10000000, 0x11000000, 0x12000000, 0x13000000,
   0x14000000, 0x15000000, 0x16000000, 0x17000000, 0x18000000, 0x19000000, 0x1A000000, 0x1B000000,
   0x1C000000, 0x1D000000, 0x1E000000, 0x1F000000]

/-- The rows of 41_store.md in the order of spec/opcode_table.json. -/
def storeRows : List Row :=
  [r3 .s8, r3 .s16B, r3 .s16AB, r3 .s16L, r3 .s16AL, r3 .s32B, r3 .s32AB, r3 .s32L, r3 .s32AL, r3 .s64B,
   r3 .s64AB, r3 .s64L, r3 .s64AL, r3 .s128B, r3 .s128AB, r3 .s128L, r3 .s128AL, r3 .sMux64AB, r3 .sMux64AL,
   ri12 .sI8, ri12 .sI16AB, ri12 .sI16B, ri12 .sI16AL, ri12 .sI16L, ri12 .sI32AB, ri12 .sI32B, ri12 .sI32AL,
   ri12 .sI32L, ri12 .sI64AB, ri12 .sI64B, ri12 .sI64AL, ri12 .sI64L, ri12 .sI128AB, ri12 .sI128B,
   ri12 .sI128AL, ri12 .sI128L, ri12 .sMuxi64AB, ri12 .sMuxi64AL]

/-- The operation-code values of the rows of 41_store.md.  DESIGN CHOICE (notes/assumptions/1.md). -/
def storeCodes : List Word :=
  [0x20000000, 0x20000001, 0x20000002, 0x20000003, 0x20000004, 0x20000005, 0x20000006, 0x20000007,
   0x20000008, 0x20000009, 0x2000000A, 0x2000000B, 0x2000000C, 0x2000000D, 0x2000000E, 0x2000000F,
   0x20000010, 0x20000011, 0x20000012, 0x21000000, 0x22000000, 0x23000000, 0x24000000, 0x25000000,
   0x26000000, 0x27000000, 0x28000000, 0x29000000, 0x2A000000, 0x2B000000, 0x2C000000, 0x2D000000,
   0x2E000000, 0x2F000000, 0x30000000, 0x31000000, 0x32000000, 0x33000000]

/-- The rows of 42_address.md in the order of spec/opcode_table.json. -/
def addressRows : List Row :=
  [i24 .aRes, r3 .aAdd, r3 .aAddO, r3 .aAddUO, r3 .aAnd, r3 .aAndn, r3 .aNand, r3 .aNor, r3 .aOr, r3 .aOrn,
   r3 .aXnor, r3 .aXor, com .aComAndE, com .aComAndNe, com .aComE, com .aComGe, com .aComGeU, com .aComL,
   com .aComLU, com .aComNe, ri18 .aCopyI, ri12 .aAddI, ri12 .aAddIO, ri12 .aAddIUO, ri12 .aAndI,
   ri12 .aNandI, ri12 .aNorI, ri12 .aOrI, ri12 .aXorI, ri12 .aSetAndEI, ri12 .aSetAndNeI, ri12 .aSetEI,
   ri12 .aSetGeI, ri12 .aSetLI, ri12 .aSetNeI, ri12 .aSetGeIU, ri12 .aSetLIU, ri12 .aSubI, ri12 .aSubIO,
   ri12 .aSubIUO, r3 .aSetAndE, r3 .aSetAndNe, r3 .aSetE, r3 .aSetGe, r3 .aSetGeU, r3 .aSetL, r3 .aSetLU,
   r3 .aSetNe, r3 .aSub, r3 .aSubO, r3 .aSubUO, shadd .aShlIAdd, shadd .aShlISub, r3 .aShlI, r3 .aShlIO,
   r3 .aShlIUO, r3 .aShrI, r3 .aShrIU, r4 .aMux]

/-- The operation-code values of the rows of 42_address.md.  DESIGN CHOICE (notes/assumptions/1.md). -/
def addressCodes : List Word :=
  [0x00000000, 0x34000000, 0x34000001, 0x34000002, 0x34000003, 0x34000004, 0x34000005, 0x34000006,
   0x34000007, 0x34000008, 0x34000009, 0x3400000A, 0x35000000, 0x35000001, 0x35000002, 0x35000003,
   0x35000004, 0x35000005, 0x35000006, 0x35000007, 0x36000000, 0x37000000, 0x38000000, 0x39000000,
   0x3A000000, 0x3B000000, 0x3C000000, 0x3D000000, 0x3E000000, 0x3F000000, 0x40000000, 0x41000000,
   0x42000000, 0x43000000, 0x44000000, 0x45000000, 0x46000000, 0x47000000, 0x48000000, 0x49000000,
   0x3400000B, 0x3400000C, 0x3400000D, 0x3400000E, 0x3400000F, 0x34000010, 0x34000011, 0x34000012,
   0x34000013, 0x34000014, 0x34000015, 0x4A000000, 0x4A000004, 0x34000016, 0x34000017, 0x34000018,
   0x34000019, 0x3400001A, 0x4B000000]

/-- The rows of 43_branch.md in the order of spec/opcode_table.json. -/
def branchRows : List Row :=
  [r3 .b, r3 .bBack, r3 .bBarrier, ri12 .bAndE, ri12 .bAndNe, ri12 .bE, ri12 .bGe, ri12 .bL, ri12 .bNe,
   ri12 .bGeU, ri12 .bLU, ri12 .bEF16, ri12 .bEF32, ri12 .bEF64, ri12 .bEF128, ri12 .bGeF16, ri12 .bGeF32,
   ri12 .bGeF64, ri12 .bGeF128, ri12 .bLF16, ri12 .bLF32, ri12 .bLF64, ri12 .bLF128, ri12 .bLgF16,
   ri12 .bLgF32, ri12 .bLgF64, ri12 .bLgF128, ri12 .bIF32, ri12 .bNiF32, ri12 .bNvF32, ri12 .bVF32,
   r3 .bDown, r3 .bGate, r3 .bHalt, r3 .bHint, ri12 .bHintI, i24 .bI, i24 .bLinkI, r3 .bLink]

/-- The operation-code values of the rows of 43_branch.md.  DESIGN CHOICE (notes/assumptions/1.md). -/
def branchCodes : List Word :=
  [0x4C000000, 0x4C000001, 0x4C000002, 0x4D000000, 0x4E000000, 0x4F000000, 0x50000000, 0x51000000,
   0x52000000, 0x53000000, 0x54000000, 0x55000000, 0x56000000, 0x57000000, 0x58000000, 0x59000000,
   0x5A000000, 0x5B000000, 0x5C000000, 0x5D000000, 0x5E000000, 0x5F000000, 0x60000000, 0x61000000,
   0x62000000, 0x63000000, 0x64000000, 0x65000000, 0x66000000, 0x67000000, 0x68000000, 0x4C000003,
   0x4C000004, 0x4C000005, 0x4C000006, 0x69000000, 0x6A000000, 0x6B000000, 0x4C000007]

/-- The rows of 44_store_atomic.md in the order of spec/opcode_table.json. -/
def storeAtomicRows : List Row :=
  [r3 .sDCS64AB, r3 .sDCS64AL, ri12 .sASI64AB, ri12 .sASI64AL, ri12 .sCSI64AB, ri12 .sCSI64AL,
   ri12 .sMSI64AB, ri12 .sMSI64AL, r3 .sAS64AB, r3 .sAS64AL, r3 .sCS64AB, r3 .sCS64AL, r3 .sMS64AB,
   r3 .sMS64AL]

/-- The operation-code values of the rows of 44_store_atomic.md.  DESIGN CHOICE (notes/assumptions/1.md). -/
def storeAtomicCodes : List Word :=
  [0x6C000000, 0x6C000001, 0x6D000000, 0x6E000000, 0x6F000000, 0x70000000, 0x71000000, 0x72000000,
   0x6C000002, 0x6C000003, 0x6C000004, 0x6C000005, 0x6C000006, 0x6C000007]

/-- The rows of 45_group_arith.md in the order of spec/opcode_table.json. -/
noncomputable def groupArithRows : List Row :=
  [r3 .gAddH8C, r3 .gAddH8F, r3 .gAddH8N, r3 .gAddH8Z, r3 .gAddH16C, r3 .gAddH16F, r3 .gAddH16N,
   r3 .gAddH16Z, r3 .gAddH32C, r3 .gAddH32F, r3 .gAddH32N, r3 .gAddH32Z, r3 .gAddH64C, r3 .gAddH64F,
   r3 .gAddH64N, r3 .gAddH64Z, r3 .gAddH128C, r3 .gAddH128F, r3 .gAddH128N, r3 .gAddH128Z, r3 .gAddHU8C,
   r3 .gAddHU8F, r3 .gAddHU8N, r3 .gAddHU16C, r3 .gAddHU16F, r3 .gAddHU16N, r3 .gAddHU32C, r3 .gAddHU32F,
   r3 .gAddHU32N, r3 .gAddHU64C, r3 .gAddHU64F, r3 .gAddHU64N, r3 .gAddHU128C, r3 .gAddHU128F,
   r3 .gAddHU128N, gcopy 16 .gCopyI16, gcopy 32 .gCopyI32, gcopy 64 .gCopyI64, gcopy 128 .gCopyI128,
   r3 .gAaa8, r3 .gAaa16, r3 .gAaa32, r3 .gAaa64, r3 .gAaa128, r3 .gAsa8, r3 .gAsa16, r3 .gAsa32, r3 .gAsa64,
   r3 .gAsa128, shadd .gShlIAdd8, shadd .gShlIAdd16, shadd .gShlIAdd32, shadd .gShlIAdd64,
   shadd .gShlIAdd128, shadd .gShlISub8, shadd .gShlISub16, shadd .gShlISub32, shadd .gShlISub64,
   shadd .gShlISub128]

/-- The operation-code values of the rows of 45_group_arith.md.  DESIGN CHOICE (notes/assumptions/1.md). -/
def groupArithCodes : List Word :=
  [0x73000000, 0x73000001, 0x73000002, 0x73000003, 0x73000004, 0x73000005, 0x73000006, 0x73000007,
   0x73000008, 0x73000009, 0x7300000A, 0x7300000B, 0x7300000C, 0x7300000D, 0x7300000E, 0x7300000F,
   0x73000010, 0x73000011, 0x73000012, 0x73000013, 0x73000014, 0x73000015, 0x73000016, 0x73000017,
   0x73000018, 0x73000019, 0x7300001A, 0x7300001B, 0x7300001C, 0x7300001D, 0x7300001E, 0x7300001F,
   0x73000020, 0x73000021, 0x73000022, 0x74000000, 0x74010000, 0x74020000, 0x74030000, 0x73000023,
   0x73000024, 0x73000025, 0x73000026, 0x73000027, 0x73000028, 0x73000029, 0x7300002A, 0x7300002B,
   0x7300002C, 0x4A000008, 0x4A00000C, 0x4A000010, 0x4A000014, 0x4A000018, 0x4A00001C, 0x4A000020,
   0x4A000024, 0x4A000028, 0x4A00002C]

/-- The rows of 46_group_immediate.md in the order of spec/opcode_table.json. -/
noncomputable def groupImmediateRows : List Row :=
  [gi 16 .gAddI16, gi 16 .gAddI16O, gi 32 .gAddI32, gi 32 .gAddI32O, gi 64 .gAddI64, gi 64 .gAddI64O,
   gi 128 .gAddI128, gi 128 .gAddI128O, gi 16 .gAddIU16O, gi 32 .gAddIU32O, gi 64 .gAddIU64O,
   gi 128 .gAddIU128O, gi 16 .gAndI16, gi 32 .gAndI32, gi 64 .gAndI64, gi 128 .gAndI128, gi 16 .gNandI16,
   gi 32 .gNandI32, gi 64 .gNandI64, gi 128 .gNandI128, gi 16 .gNorI16, gi 32 .gNorI32, gi 64 .gNorI64,
   gi 128 .gNorI128, gi 16 .gOrI16, gi 32 .gOrI32, gi 64 .gOrI64, gi 128 .gOrI128, gi 16 .gXorI16,
   gi 32 .gXorI32, gi 64 .gXorI64, gi 128 .gXorI128, gi 16 .gSetAndEI16, gi 32 .gSetAndEI32,
   gi 64 .gSetAndEI64, gi 128 .gSetAndEI128, gi 16 .gSetAndNeI16, gi 32 .gSetAndNeI32, gi 64 .gSetAndNeI64,
   gi 128 .gSetAndNeI128, gi 16 .gSetEI16, gi 32 .gSetEI32, gi 64 .gSetEI64, gi 128 .gSetEI128,
   gi 16 .gSetGeI16, gi 32 .gSetGeI32, gi 64 .gSetGeI64, gi 128 .gSetGeI128, gi 16 .gSetGeIU16,
   gi 32 .gSetGeIU32, gi 64 .gSetGeIU64, gi 128 .gSetGeIU128, gi 16 .gSetLI16, gi 32 .gSetLI32,
   gi 64 .gSetLI64, gi 128 .gSetLI128, gi 16 .gSetLIU16, gi 32 .gSetLIU32, gi 64 .gSetLIU64,
   gi 128 .gSetLIU128, gi 16 .gSetNeI16, gi 32 .gSetNeI32, gi 64 .gSetNeI64, gi 128 .gSetNeI128,
   gi 16 .gSubI16, gi 16 .gSubI16O, gi 32 .gSubI32, gi 32 .gSubI32O, gi 64 .gSubI64, gi 64 .gSubI64O,
   gi 128 .gSubI128, gi 128 .gSubI128O, gi 16 .gSubIU16O, gi 32 .gSubIU32O, gi 64 .gSubIU64O,
   gi 128 .gSubIU128O]

/-- The operation-code values of the rows of 46_group_immediate.md.  DESIGN CHOICE (notes/assumptions/1.md). -/
def groupImmediateCodes : List Word :=
  [0x76000000, 0x77000000, 0x76000400, 0x77000400, 0x76000800, 0x77000800, 0x76000C00, 0x77000C00,
   0x78000000, 0x78000400, 0x78000800, 0x78000C00, 0x79000000, 0x79000400, 0x79000800, 0x79000C00,
   0x7A000000, 0x7A000400, 0x7A000800, 0x7A000C00, 0x7B000000, 0x7B000400, 0x7B000800, 0x7B000C00,
   0x7C000000, 0x7C000400, 0x7C000800, 0x7C000C00, 0x7D000000, 0x7D000400, 0x7D000800, 0x7D000C00,
   0x7E000000, 0x7E000400, 0x7E000800, 0x7E000C00, 0x7F000000, 0x7F000400, 0x7F000800, 0x7F000C00,
   0x80000000, 0x80000400, 0x80000800, 0x80000C00, 0x81000000, 0x81000400, 0x81000800, 0x81000C00,
   0x82000000, 0x82000400, 0x82000800, 0x82000C00, 0x83000000, 0x83000400, 0x83000800, 0x83000C00,
   0x84000000, 0x84000400, 0x84000800, 0x84000C00, 0x85000000, 0x85000400, 0x85000800, 0x85000C00,
   0x86000000, 0x87000000, 0x86000400, 0x87000400, 0x86000800, 0x87000800, 0x86000C00, 0x87000C00,
   0x88000000, 0x88000400, 0x88000800, 0x88000C00]

/-- The five encodings G.ADD.H.U.size.Z, size 8 to 128, which are no instructions and raise "Reserved Instruction"
(30_encoding.md rule R160, 45_group_arith.md rule R703). -/
def reservedRows : List Row := [r3Reserved, r3Reserved, r3Reserved, r3Reserved, r3Reserved]

/-- The operation-code values of the five reserved encodings.  DESIGN CHOICE (notes/assumptions/1.md). -/
def reservedCodes : List Word :=
  [0x7300002D, 0x7300002E, 0x7300002F, 0x73000030, 0x73000031]

/-- Every assigned encoding: the 345 instructions in the order of spec/opcode_table.json, then the reserved ones. -/
noncomputable def rows : List Row :=
  loadRows ++ storeRows ++ addressRows ++ branchRows ++ storeAtomicRows ++ groupArithRows ++ groupImmediateRows ++
  reservedRows

/-- The model's own operation-code map, that of `State.reset`.  DESIGN CHOICE, unsafe (notes/assumptions/1.md): the
source prints no operation-code value and the spec leaves `OpcodeMap` OPEN (30_encoding.md rule R134). -/
def opcodeMap : OpcodeMap :=
  { codes := loadCodes ++ storeCodes ++ addressCodes ++ branchCodes ++ storeAtomicCodes ++ groupArithCodes ++
      groupImmediateCodes ++ reservedCodes }

/-- Mask and code of every assigned encoding under a map. -/
noncomputable def OpcodeMap.patterns (m : OpcodeMap) : List (Word × Word) := (rows.map Row.mask).zip m.codes

/-- No word matches both encodings. -/
def apart (p q : Word × Word) : Bool := (p.2 ^^^ q.2) &&& (p.1 &&& q.1) != 0#32

/-- No word matches two encodings of the list. -/
def allApart : List (Word × Word) → Bool
  | [] => true
  | p :: ps => ps.all (apart p) && allApart ps

/-- The code can be the row's: its bits lie within the code bits of the row's format, and those that the size fixes are
as it fixes them (30_encoding.md rule R134). -/
def Row.admits (r : Row) (c : Word) : Bool := c &&& ~~~r.mask == 0#32 && c &&& r.fixedMask == r.fixedMatch

/-- The map is one 30_encoding.md rule R134 allows: a code for every encoding, one its row admits, and no word with two
meanings. -/
noncomputable def OpcodeMap.valid (m : OpcodeMap) : Bool :=
  m.codes.length == rows.length && (rows.zip m.codes).all (fun p => p.1.admits p.2) && allApart m.patterns

/-- The first assigned encoding the word matches decides what it stands for. -/
def matchRows : List Row → List Word → Word → Decoded
  | r :: rs, c :: cs, w => if w &&& r.mask = c then r.build w else matchRows rs cs w
  | _, _, _ => .unassigned

/-- Decoding under a given map: total on every word. -/
noncomputable def decodeWith (m : OpcodeMap) (w : Word) : Decoded := matchRows rows m.codes w

/-- Decoding under the model's own map. -/
noncomputable def decode (w : Word) : Decoded := decodeWith opcodeMap w

/-- The code of the `k`-th row. -/
def OpcodeMap.code (m : OpcodeMap) (k : Nat) : Word := m.codes.getD k 0

/-- The word of row `k` in formats RRR, RRR-rev, BR, SHIFT and HINT. -/
def OpcodeMap.r3Word (m : OpcodeMap) (k : Nat) (x y z : BitVec 6) : Word :=
  m.code k ||| placed x 18 ||| placed y 12 ||| placed z 6

/-- The word of row `k` in format RRRR. -/
def OpcodeMap.r4Word (m : OpcodeMap) (k : Nat) (x y z u : Reg) : Word :=
  m.code k ||| placed x 18 ||| placed y 12 ||| placed z 6 ||| placed u 0

/-- The word of row `k` in format COM. -/
def OpcodeMap.comWord (m : OpcodeMap) (k : Nat) (x y : Reg) : Word :=
  m.code k ||| placed x 18 ||| placed y 12

/-- The word of row `k` in formats RRI, RRI-rev, BRC and HINTI. -/
def OpcodeMap.ri12Word (m : OpcodeMap) (k : Nat) (x y : BitVec 6) (v : BitVec 12) : Word :=
  m.code k ||| placed x 18 ||| placed y 12 ||| placed v 0

/-- The word of row `k` in format RI18. -/
def OpcodeMap.ri18Word (m : OpcodeMap) (k : Nat) (x : Reg) (v : BitVec 18) : Word :=
  m.code k ||| placed x 18 ||| placed v 0

/-- The word of row `k` in formats I24 and RES. -/
def OpcodeMap.i24Word (m : OpcodeMap) (k : Nat) (v : BitVec 24) : Word :=
  m.code k ||| placed v 0

/-- The word of row `k` in format SHADD. -/
def OpcodeMap.shaddWord (m : OpcodeMap) (k : Nat) (x y z : Reg) (amount : Nat) : Word :=
  m.code k ||| placed x 18 ||| placed y 12 ||| placed z 6 ||| placed (BitVec.ofNat 2 (amount - 1)) 0

/-- The word of row `k` in formats GI and GI-rev. -/
def OpcodeMap.giWord (m : OpcodeMap) (k : Nat) (x y : Reg) (v : BitVec 10) : Word :=
  m.code k ||| placed x 18 ||| placed y 12 ||| placed v 0

/-- The word of row `k` in format GCOPYI. -/
def OpcodeMap.gcopyWord (m : OpcodeMap) (k : Nat) (sign : BitVec 1) (x : Reg) (v : BitVec 16) : Word :=
  m.code k ||| placed sign 24 ||| placed x 18 ||| placed v 0

/-- The word of an instruction under a given map, from the encodings of spec/opcode_table.json. -/
def encodeWith (m : OpcodeMap) : Instr → Word
  | .l8 rd rc rb => m.r3Word 0 rd rc rb
  | .l16B rd rc rb => m.r3Word 1 rd rc rb
  | .l16AB rd rc rb => m.r3Word 2 rd rc rb
  | .l16L rd rc rb => m.r3Word 3 rd rc rb
  | .l16AL rd rc rb => m.r3Word 4 rd rc rb
  | .l32B rd rc rb => m.r3Word 5 rd rc rb
  | .l32AB rd rc rb => m.r3Word 6 rd rc rb
  | .l32L rd rc rb => m.r3Word 7 rd rc rb
  | .l32AL rd rc rb => m.r3Word 8 rd rc rb
  | .l64B rd rc rb => m.r3Word 9 rd rc rb
  | .l64AB rd rc rb => m.r3Word 10 rd rc rb
  | .l64L rd rc rb => m.r3Word 11 rd rc rb
  | .l64AL rd rc rb => m.r3Word 12 rd rc rb
  | .l128B rd rc rb => m.r3Word 13 rd rc rb
  | .l128AB rd rc rb => m.r3Word 14 rd rc rb
  | .l128L rd rc rb => m.r3Word 15 rd rc rb
  | .l128AL rd rc rb => m.r3Word 16 rd rc rb
  | .lU8 rd rc rb => m.r3Word 17 rd rc rb
  | .lU16B rd rc rb => m.r3Word 18 rd rc rb
  | .lU16AB rd rc rb => m.r3Word 19 rd rc rb
  | .lU16L rd rc rb => m.r3Word 20 rd rc rb
  | .lU16AL rd rc rb => m.r3Word 21 rd rc rb
  | .lU32B rd rc rb => m.r3Word 22 rd rc rb
  | .lU32AB rd rc rb => m.r3Word 23 rd rc rb
  | .lU32L rd rc rb => m.r3Word 24 rd rc rb
  | .lU32AL rd rc rb => m.r3Word 25 rd rc rb
  | .lU64B rd rc rb => m.r3Word 26 rd rc rb
  | .lU64AB rd rc rb => m.r3Word 27 rd rc rb
  | .lU64L rd rc rb => m.r3Word 28 rd rc rb
  | .lU64AL rd rc rb => m.r3Word 29 rd rc rb
  | .lI8 rd rc offset => m.ri12Word 30 rd rc offset
  | .lI16AB rd rc offset => m.ri12Word 31 rd rc offset
  | .lI16B rd rc offset => m.ri12Word 32 rd rc offset
  | .lI16AL rd rc offset => m.ri12Word 33 rd rc offset
  | .lI16L rd rc offset => m.ri12Word 34 rd rc offset
  | .lI32AB rd rc offset => m.ri12Word 35 rd rc offset
  | .lI32B rd rc offset => m.ri12Word 36 rd rc offset
  | .lI32AL rd rc offset => m.ri12Word 37 rd rc offset
  | .lI32L rd rc offset => m.ri12Word 38 rd rc offset
  | .lI64AB rd rc offset => m.ri12Word 39 rd rc offset
  | .lI64B rd rc offset => m.ri12Word 40 rd rc offset
  | .lI64AL rd rc offset => m.ri12Word 41 rd rc offset
  | .lI64L rd rc offset => m.ri12Word 42 rd rc offset
  | .lI128AB rd rc offset => m.ri12Word 43 rd rc offset
  | .lI128B rd rc offset => m.ri12Word 44 rd rc offset
  | .lI128AL rd rc offset => m.ri12Word 45 rd rc offset
  | .lI128L rd rc offset => m.ri12Word 46 rd rc offset
  | .lIU8 rd rc offset => m.ri12Word 47 rd rc offset
  | .lIU16AB rd rc offset => m.ri12Word 48 rd rc offset
  | .lIU16B rd rc offset => m.ri12Word 49 rd rc offset
  | .lIU16AL rd rc offset => m.ri12Word 50 rd rc offset
  | .lIU16L rd rc offset => m.ri12Word 51 rd rc offset
  | .lIU32AB rd rc offset => m.ri12Word 52 rd rc offset
  | .lIU32B rd rc offset => m.ri12Word 53 rd rc offset
  | .lIU32AL rd rc offset => m.ri12Word 54 rd rc offset
  | .lIU32L rd rc offset => m.ri12Word 55 rd rc offset
  | .lIU64AB rd rc offset => m.ri12Word 56 rd rc offset
  | .lIU64B rd rc offset => m.ri12Word 57 rd rc offset
  | .lIU64AL rd rc offset => m.ri12Word 58 rd rc offset
  | .lIU64L rd rc offset => m.ri12Word 59 rd rc offset
  | .s8 rd rc rb => m.r3Word 60 rd rc rb
  | .s16B rd rc rb => m.r3Word 61 rd rc rb
  | .s16AB rd rc rb => m.r3Word 62 rd rc rb
  | .s16L rd rc rb => m.r3Word 63 rd rc rb
  | .s16AL rd rc rb => m.r3Word 64 rd rc rb
  | .s32B rd rc rb => m.r3Word 65 rd rc rb
  | .s32AB rd rc rb => m.r3Word 66 rd rc rb
  | .s32L rd rc rb => m.r3Word 67 rd rc rb
  | .s32AL rd rc rb => m.r3Word 68 rd rc rb
  | .s64B rd rc rb => m.r3Word 69 rd rc rb
  | .s64AB rd rc rb => m.r3Word 70 rd rc rb
  | .s64L rd rc rb => m.r3Word 71 rd rc rb
  | .s64AL rd rc rb => m.r3Word 72 rd rc rb
  | .s128B rd rc rb => m.r3Word 73 rd rc rb
  | .s128AB rd rc rb => m.r3Word 74 rd rc rb
  | .s128L rd rc rb => m.r3Word 75 rd rc rb
  | .s128AL rd rc rb => m.r3Word 76 rd rc rb
  | .sMux64AB rd rc rb => m.r3Word 77 rd rc rb
  | .sMux64AL rd rc rb => m.r3Word 78 rd rc rb
  | .sI8 rd rc offset => m.ri12Word 79 rd rc offset
  | .sI16AB rd rc offset => m.ri12Word 80 rd rc offset
  | .sI16B rd rc offset => m.ri12Word 81 rd rc offset
  | .sI16AL rd rc offset => m.ri12Word 82 rd rc offset
  | .sI16L rd rc offset => m.ri12Word 83 rd rc offset
  | .sI32AB rd rc offset => m.ri12Word 84 rd rc offset
  | .sI32B rd rc offset => m.ri12Word 85 rd rc offset
  | .sI32AL rd rc offset => m.ri12Word 86 rd rc offset
  | .sI32L rd rc offset => m.ri12Word 87 rd rc offset
  | .sI64AB rd rc offset => m.ri12Word 88 rd rc offset
  | .sI64B rd rc offset => m.ri12Word 89 rd rc offset
  | .sI64AL rd rc offset => m.ri12Word 90 rd rc offset
  | .sI64L rd rc offset => m.ri12Word 91 rd rc offset
  | .sI128AB rd rc offset => m.ri12Word 92 rd rc offset
  | .sI128B rd rc offset => m.ri12Word 93 rd rc offset
  | .sI128AL rd rc offset => m.ri12Word 94 rd rc offset
  | .sI128L rd rc offset => m.ri12Word 95 rd rc offset
  | .sMuxi64AB rd rc offset => m.ri12Word 96 rd rc offset
  | .sMuxi64AL rd rc offset => m.ri12Word 97 rd rc offset
  | .aRes imm => m.i24Word 98 imm
  | .aAdd rd rc rb => m.r3Word 99 rd rc rb
  | .aAddO rd rc rb => m.r3Word 100 rd rc rb
  | .aAddUO rd rc rb => m.r3Word 101 rd rc rb
  | .aAnd rd rc rb => m.r3Word 102 rd rc rb
  | .aAndn rd rc rb => m.r3Word 103 rd rc rb
  | .aNand rd rc rb => m.r3Word 104 rd rc rb
  | .aNor rd rc rb => m.r3Word 105 rd rc rb
  | .aOr rd rc rb => m.r3Word 106 rd rc rb
  | .aOrn rd rc rb => m.r3Word 107 rd rc rb
  | .aXnor rd rc rb => m.r3Word 108 rd rc rb
  | .aXor rd rc rb => m.r3Word 109 rd rc rb
  | .aComAndE rd rc => m.comWord 110 rd rc
  | .aComAndNe rd rc => m.comWord 111 rd rc
  | .aComE rd rc => m.comWord 112 rd rc
  | .aComGe rd rc => m.comWord 113 rd rc
  | .aComGeU rd rc => m.comWord 114 rd rc
  | .aComL rd rc => m.comWord 115 rd rc
  | .aComLU rd rc => m.comWord 116 rd rc
  | .aComNe rd rc => m.comWord 117 rd rc
  | .aCopyI rd imm => m.ri18Word 118 rd imm
  | .aAddI rd rc imm => m.ri12Word 119 rd rc imm
  | .aAddIO rd rc imm => m.ri12Word 120 rd rc imm
  | .aAddIUO rd rc imm => m.ri12Word 121 rd rc imm
  | .aAndI rd rc imm => m.ri12Word 122 rd rc imm
  | .aNandI rd rc imm => m.ri12Word 123 rd rc imm
  | .aNorI rd rc imm => m.ri12Word 124 rd rc imm
  | .aOrI rd rc imm => m.ri12Word 125 rd rc imm
  | .aXorI rd rc imm => m.ri12Word 126 rd rc imm
  | .aSetAndEI rd rc imm => m.ri12Word 127 rd rc imm
  | .aSetAndNeI rd rc imm => m.ri12Word 128 rd rc imm
  | .aSetEI rd rc imm => m.ri12Word 129 rd rc imm
  | .aSetGeI rd rc imm => m.ri12Word 130 rd rc imm
  | .aSetLI rd rc imm => m.ri12Word 131 rd rc imm
  | .aSetNeI rd rc imm => m.ri12Word 132 rd rc imm
  | .aSetGeIU rd rc imm => m.ri12Word 133 rd rc imm
  | .aSetLIU rd rc imm => m.ri12Word 134 rd rc imm
  | .aSubI rd rc imm => m.ri12Word 135 rd rc imm
  | .aSubIO rd rc imm => m.ri12Word 136 rd rc imm
  | .aSubIUO rd rc imm => m.ri12Word 137 rd rc imm
  | .aSetAndE rd rc rb => m.r3Word 138 rd rc rb
  | .aSetAndNe rd rc rb => m.r3Word 139 rd rc rb
  | .aSetE rd rc rb => m.r3Word 140 rd rc rb
  | .aSetGe rd rc rb => m.r3Word 141 rd rc rb
  | .aSetGeU rd rc rb => m.r3Word 142 rd rc rb
  | .aSetL rd rc rb => m.r3Word 143 rd rc rb
  | .aSetLU rd rc rb => m.r3Word 144 rd rc rb
  | .aSetNe rd rc rb => m.r3Word 145 rd rc rb
  | .aSub rd rc rb => m.r3Word 146 rd rc rb
  | .aSubO rd rc rb => m.r3Word 147 rd rc rb
  | .aSubUO rd rc rb => m.r3Word 148 rd rc rb
  | .aShlIAdd rd rc rb amount => m.shaddWord 149 rd rc rb amount
  | .aShlISub rd rc rb amount => m.shaddWord 150 rd rc rb amount
  | .aShlI rd rc simm => m.r3Word 151 rd rc simm
  | .aShlIO rd rc simm => m.r3Word 152 rd rc simm
  | .aShlIUO rd rc simm => m.r3Word 153 rd rc simm
  | .aShrI rd rc simm => m.r3Word 154 rd rc simm
  | .aShrIU rd rc simm => m.r3Word 155 rd rc simm
  | .aMux rd rc rb ra => m.r4Word 156 rd rc rb ra
  | .b rd rc rb => m.r3Word 157 rd rc rb
  | .bBack rd rc rb => m.r3Word 158 rd rc rb
  | .bBarrier rd rc rb => m.r3Word 159 rd rc rb
  | .bAndE rd rc offset => m.ri12Word 160 rd rc offset
  | .bAndNe rd rc offset => m.ri12Word 161 rd rc offset
  | .bE rd rc offset => m.ri12Word 162 rd rc offset
  | .bGe rd rc offset => m.ri12Word 163 rd rc offset
  | .bL rd rc offset => m.ri12Word 164 rd rc offset
  | .bNe rd rc offset => m.ri12Word 165 rd rc offset
  | .bGeU rd rc offset => m.ri12Word 166 rd rc offset
  | .bLU rd rc offset => m.ri12Word 167 rd rc offset
  | .bEF16 rd rc offset => m.ri12Word 168 rd rc offset
  | .bEF32 rd rc offset => m.ri12Word 169 rd rc offset
  | .bEF64 rd rc offset => m.ri12Word 170 rd rc offset
  | .bEF128 rd rc offset => m.ri12Word 171 rd rc offset
  | .bGeF16 rd rc offset => m.ri12Word 172 rd rc offset
  | .bGeF32 rd rc offset => m.ri12Word 173 rd rc offset
  | .bGeF64 rd rc offset => m.ri12Word 174 rd rc offset
  | .bGeF128 rd rc offset => m.ri12Word 175 rd rc offset
  | .bLF16 rd rc offset => m.ri12Word 176 rd rc offset
  | .bLF32 rd rc offset => m.ri12Word 177 rd rc offset
  | .bLF64 rd rc offset => m.ri12Word 178 rd rc offset
  | .bLF128 rd rc offset => m.ri12Word 179 rd rc offset
  | .bLgF16 rd rc offset => m.ri12Word 180 rd rc offset
  | .bLgF32 rd rc offset => m.ri12Word 181 rd rc offset
  | .bLgF64 rd rc offset => m.ri12Word 182 rd rc offset
  | .bLgF128 rd rc offset => m.ri12Word 183 rd rc offset
  | .bIF32 rd rc offset => m.ri12Word 184 rd rc offset
  | .bNiF32 rd rc offset => m.ri12Word 185 rd rc offset
  | .bNvF32 rd rc offset => m.ri12Word 186 rd rc offset
  | .bVF32 rd rc offset => m.ri12Word 187 rd rc offset
  | .bDown rd rc rb => m.r3Word 188 rd rc rb
  | .bGate rd rc rb => m.r3Word 189 rd rc rb
  | .bHalt rd rc rb => m.r3Word 190 rd rc rb
  | .bHint rd count simm => m.r3Word 191 rd count simm
  | .bHintI simm count offset => m.ri12Word 192 simm count offset
  | .bI offset => m.i24Word 193 offset
  | .bLinkI offset => m.i24Word 194 offset
  | .bLink rd rc rb => m.r3Word 195 rd rc rb
  | .sDCS64AB rd rc rb => m.r3Word 196 rd rc rb
  | .sDCS64AL rd rc rb => m.r3Word 197 rd rc rb
  | .sASI64AB rd rc offset => m.ri12Word 198 rd rc offset
  | .sASI64AL rd rc offset => m.ri12Word 199 rd rc offset
  | .sCSI64AB rd rc offset => m.ri12Word 200 rd rc offset
  | .sCSI64AL rd rc offset => m.ri12Word 201 rd rc offset
  | .sMSI64AB rd rc offset => m.ri12Word 202 rd rc offset
  | .sMSI64AL rd rc offset => m.ri12Word 203 rd rc offset
  | .sAS64AB rd rc rb => m.r3Word 204 rd rc rb
  | .sAS64AL rd rc rb => m.r3Word 205 rd rc rb
  | .sCS64AB rd rc rb => m.r3Word 206 rd rc rb
  | .sCS64AL rd rc rb => m.r3Word 207 rd rc rb
  | .sMS64AB rd rc rb => m.r3Word 208 rd rc rb
  | .sMS64AL rd rc rb => m.r3Word 209 rd rc rb
  | .gAddH8C rd rc rb => m.r3Word 210 rd rc rb
  | .gAddH8F rd rc rb => m.r3Word 211 rd rc rb
  | .gAddH8N rd rc rb => m.r3Word 212 rd rc rb
  | .gAddH8Z rd rc rb => m.r3Word 213 rd rc rb
  | .gAddH16C rd rc rb => m.r3Word 214 rd rc rb
  | .gAddH16F rd rc rb => m.r3Word 215 rd rc rb
  | .gAddH16N rd rc rb => m.r3Word 216 rd rc rb
  | .gAddH16Z rd rc rb => m.r3Word 217 rd rc rb
  | .gAddH32C rd rc rb => m.r3Word 218 rd rc rb
  | .gAddH32F rd rc rb => m.r3Word 219 rd rc rb
  | .gAddH32N rd rc rb => m.r3Word 220 rd rc rb
  | .gAddH32Z rd rc rb => m.r3Word 221 rd rc rb
  | .gAddH64C rd rc rb => m.r3Word 222 rd rc rb
  | .gAddH64F rd rc rb => m.r3Word 223 rd rc rb
  | .gAddH64N rd rc rb => m.r3Word 224 rd rc rb
  | .gAddH64Z rd rc rb => m.r3Word 225 rd rc rb
  | .gAddH128C rd rc rb => m.r3Word 226 rd rc rb
  | .gAddH128F rd rc rb => m.r3Word 227 rd rc rb
  | .gAddH128N rd rc rb => m.r3Word 228 rd rc rb
  | .gAddH128Z rd rc rb => m.r3Word 229 rd rc rb
  | .gAddHU8C rd rc rb => m.r3Word 230 rd rc rb
  | .gAddHU8F rd rc rb => m.r3Word 231 rd rc rb
  | .gAddHU8N rd rc rb => m.r3Word 232 rd rc rb
  | .gAddHU16C rd rc rb => m.r3Word 233 rd rc rb
  | .gAddHU16F rd rc rb => m.r3Word 234 rd rc rb
  | .gAddHU16N rd rc rb => m.r3Word 235 rd rc rb
  | .gAddHU32C rd rc rb => m.r3Word 236 rd rc rb
  | .gAddHU32F rd rc rb => m.r3Word 237 rd rc rb
  | .gAddHU32N rd rc rb => m.r3Word 238 rd rc rb
  | .gAddHU64C rd rc rb => m.r3Word 239 rd rc rb
  | .gAddHU64F rd rc rb => m.r3Word 240 rd rc rb
  | .gAddHU64N rd rc rb => m.r3Word 241 rd rc rb
  | .gAddHU128C rd rc rb => m.r3Word 242 rd rc rb
  | .gAddHU128F rd rc rb => m.r3Word 243 rd rc rb
  | .gAddHU128N rd rc rb => m.r3Word 244 rd rc rb
  | .gCopyI16 sign rd imm => m.gcopyWord 245 sign rd imm
  | .gCopyI32 sign rd imm => m.gcopyWord 246 sign rd imm
  | .gCopyI64 sign rd imm => m.gcopyWord 247 sign rd imm
  | .gCopyI128 sign rd imm => m.gcopyWord 248 sign rd imm
  | .gAaa8 rd rc rb => m.r3Word 249 rd rc rb
  | .gAaa16 rd rc rb => m.r3Word 250 rd rc rb
  | .gAaa32 rd rc rb => m.r3Word 251 rd rc rb
  | .gAaa64 rd rc rb => m.r3Word 252 rd rc rb
  | .gAaa128 rd rc rb => m.r3Word 253 rd rc rb
  | .gAsa8 rd rc rb => m.r3Word 254 rd rc rb
  | .gAsa16 rd rc rb => m.r3Word 255 rd rc rb
  | .gAsa32 rd rc rb => m.r3Word 256 rd rc rb
  | .gAsa64 rd rc rb => m.r3Word 257 rd rc rb
  | .gAsa128 rd rc rb => m.r3Word 258 rd rc rb
  | .gShlIAdd8 rd rc rb amount => m.shaddWord 259 rd rc rb amount
  | .gShlIAdd16 rd rc rb amount => m.shaddWord 260 rd rc rb amount
  | .gShlIAdd32 rd rc rb amount => m.shaddWord 261 rd rc rb amount
  | .gShlIAdd64 rd rc rb amount => m.shaddWord 262 rd rc rb amount
  | .gShlIAdd128 rd rc rb amount => m.shaddWord 263 rd rc rb amount
  | .gShlISub8 rd rc rb amount => m.shaddWord 264 rd rc rb amount
  | .gShlISub16 rd rc rb amount => m.shaddWord 265 rd rc rb amount
  | .gShlISub32 rd rc rb amount => m.shaddWord 266 rd rc rb amount
  | .gShlISub64 rd rc rb amount => m.shaddWord 267 rd rc rb amount
  | .gShlISub128 rd rc rb amount => m.shaddWord 268 rd rc rb amount
  | .gAddI16 rd rc imm => m.giWord 269 rd rc imm
  | .gAddI16O rd rc imm => m.giWord 270 rd rc imm
  | .gAddI32 rd rc imm => m.giWord 271 rd rc imm
  | .gAddI32O rd rc imm => m.giWord 272 rd rc imm
  | .gAddI64 rd rc imm => m.giWord 273 rd rc imm
  | .gAddI64O rd rc imm => m.giWord 274 rd rc imm
  | .gAddI128 rd rc imm => m.giWord 275 rd rc imm
  | .gAddI128O rd rc imm => m.giWord 276 rd rc imm
  | .gAddIU16O rd rc imm => m.giWord 277 rd rc imm
  | .gAddIU32O rd rc imm => m.giWord 278 rd rc imm
  | .gAddIU64O rd rc imm => m.giWord 279 rd rc imm
  | .gAddIU128O rd rc imm => m.giWord 280 rd rc imm
  | .gAndI16 rd rc imm => m.giWord 281 rd rc imm
  | .gAndI32 rd rc imm => m.giWord 282 rd rc imm
  | .gAndI64 rd rc imm => m.giWord 283 rd rc imm
  | .gAndI128 rd rc imm => m.giWord 284 rd rc imm
  | .gNandI16 rd rc imm => m.giWord 285 rd rc imm
  | .gNandI32 rd rc imm => m.giWord 286 rd rc imm
  | .gNandI64 rd rc imm => m.giWord 287 rd rc imm
  | .gNandI128 rd rc imm => m.giWord 288 rd rc imm
  | .gNorI16 rd rc imm => m.giWord 289 rd rc imm
  | .gNorI32 rd rc imm => m.giWord 290 rd rc imm
  | .gNorI64 rd rc imm => m.giWord 291 rd rc imm
  | .gNorI128 rd rc imm => m.giWord 292 rd rc imm
  | .gOrI16 rd rc imm => m.giWord 293 rd rc imm
  | .gOrI32 rd rc imm => m.giWord 294 rd rc imm
  | .gOrI64 rd rc imm => m.giWord 295 rd rc imm
  | .gOrI128 rd rc imm => m.giWord 296 rd rc imm
  | .gXorI16 rd rc imm => m.giWord 297 rd rc imm
  | .gXorI32 rd rc imm => m.giWord 298 rd rc imm
  | .gXorI64 rd rc imm => m.giWord 299 rd rc imm
  | .gXorI128 rd rc imm => m.giWord 300 rd rc imm
  | .gSetAndEI16 rd rc imm => m.giWord 301 rd rc imm
  | .gSetAndEI32 rd rc imm => m.giWord 302 rd rc imm
  | .gSetAndEI64 rd rc imm => m.giWord 303 rd rc imm
  | .gSetAndEI128 rd rc imm => m.giWord 304 rd rc imm
  | .gSetAndNeI16 rd rc imm => m.giWord 305 rd rc imm
  | .gSetAndNeI32 rd rc imm => m.giWord 306 rd rc imm
  | .gSetAndNeI64 rd rc imm => m.giWord 307 rd rc imm
  | .gSetAndNeI128 rd rc imm => m.giWord 308 rd rc imm
  | .gSetEI16 rd rc imm => m.giWord 309 rd rc imm
  | .gSetEI32 rd rc imm => m.giWord 310 rd rc imm
  | .gSetEI64 rd rc imm => m.giWord 311 rd rc imm
  | .gSetEI128 rd rc imm => m.giWord 312 rd rc imm
  | .gSetGeI16 rd rc imm => m.giWord 313 rd rc imm
  | .gSetGeI32 rd rc imm => m.giWord 314 rd rc imm
  | .gSetGeI64 rd rc imm => m.giWord 315 rd rc imm
  | .gSetGeI128 rd rc imm => m.giWord 316 rd rc imm
  | .gSetGeIU16 rd rc imm => m.giWord 317 rd rc imm
  | .gSetGeIU32 rd rc imm => m.giWord 318 rd rc imm
  | .gSetGeIU64 rd rc imm => m.giWord 319 rd rc imm
  | .gSetGeIU128 rd rc imm => m.giWord 320 rd rc imm
  | .gSetLI16 rd rc imm => m.giWord 321 rd rc imm
  | .gSetLI32 rd rc imm => m.giWord 322 rd rc imm
  | .gSetLI64 rd rc imm => m.giWord 323 rd rc imm
  | .gSetLI128 rd rc imm => m.giWord 324 rd rc imm
  | .gSetLIU16 rd rc imm => m.giWord 325 rd rc imm
  | .gSetLIU32 rd rc imm => m.giWord 326 rd rc imm
  | .gSetLIU64 rd rc imm => m.giWord 327 rd rc imm
  | .gSetLIU128 rd rc imm => m.giWord 328 rd rc imm
  | .gSetNeI16 rd rc imm => m.giWord 329 rd rc imm
  | .gSetNeI32 rd rc imm => m.giWord 330 rd rc imm
  | .gSetNeI64 rd rc imm => m.giWord 331 rd rc imm
  | .gSetNeI128 rd rc imm => m.giWord 332 rd rc imm
  | .gSubI16 rd rc imm => m.giWord 333 rd rc imm
  | .gSubI16O rd rc imm => m.giWord 334 rd rc imm
  | .gSubI32 rd rc imm => m.giWord 335 rd rc imm
  | .gSubI32O rd rc imm => m.giWord 336 rd rc imm
  | .gSubI64 rd rc imm => m.giWord 337 rd rc imm
  | .gSubI64O rd rc imm => m.giWord 338 rd rc imm
  | .gSubI128 rd rc imm => m.giWord 339 rd rc imm
  | .gSubI128O rd rc imm => m.giWord 340 rd rc imm
  | .gSubIU16O rd rc imm => m.giWord 341 rd rc imm
  | .gSubIU32O rd rc imm => m.giWord 342 rd rc imm
  | .gSubIU64O rd rc imm => m.giWord 343 rd rc imm
  | .gSubIU128O rd rc imm => m.giWord 344 rd rc imm

/-- The registers named, where the fields that must hold a fixed value hold it; none where the word raises
"Reserved Instruction" (30_encoding.md rule R160). -/
def registersIf (fieldsHold : Bool) (rs : List Reg) : List Reg := if fieldsHold then rs else []

/-- The registers an instruction names: by its register fields, and `x[0]` or `x[1]` for the branches that read or write
them whatever their fields say (10_state.md rules R40 and R43).  A field that must hold a fixed value names no register:
the test of it comes first (43_branch.md rule R503). -/
def Instr.registers : Instr → List Reg
  | .l8 rd rc rb | .l16B rd rc rb | .l16AB rd rc rb | .l16L rd rc rb | .l16AL rd rc rb | .l32B rd rc rb
  | .l32AB rd rc rb | .l32L rd rc rb | .l32AL rd rc rb | .l64B rd rc rb | .l64AB rd rc rb | .l64L rd rc rb
  | .l64AL rd rc rb | .l128B rd rc rb | .l128AB rd rc rb | .l128L rd rc rb | .l128AL rd rc rb | .lU8 rd rc rb
  | .lU16B rd rc rb | .lU16AB rd rc rb | .lU16L rd rc rb | .lU16AL rd rc rb | .lU32B rd rc rb | .lU32AB rd rc rb
  | .lU32L rd rc rb | .lU32AL rd rc rb | .lU64B rd rc rb | .lU64AB rd rc rb | .lU64L rd rc rb | .lU64AL rd rc rb
  | .s8 rd rc rb | .s16B rd rc rb | .s16AB rd rc rb | .s16L rd rc rb | .s16AL rd rc rb | .s32B rd rc rb
  | .s32AB rd rc rb | .s32L rd rc rb | .s32AL rd rc rb | .s64B rd rc rb | .s64AB rd rc rb | .s64L rd rc rb
  | .s64AL rd rc rb | .s128B rd rc rb | .s128AB rd rc rb | .s128L rd rc rb | .s128AL rd rc rb | .sMux64AB rd rc rb
  | .sMux64AL rd rc rb | .aAdd rd rc rb | .aAddO rd rc rb | .aAddUO rd rc rb | .aAnd rd rc rb | .aAndn rd rc rb
  | .aNand rd rc rb | .aNor rd rc rb | .aOr rd rc rb | .aOrn rd rc rb | .aXnor rd rc rb | .aXor rd rc rb
  | .aSetAndE rd rc rb | .aSetAndNe rd rc rb | .aSetE rd rc rb | .aSetGe rd rc rb | .aSetGeU rd rc rb
  | .aSetL rd rc rb | .aSetLU rd rc rb | .aSetNe rd rc rb | .aSub rd rc rb | .aSubO rd rc rb | .aSubUO rd rc rb
  | .sDCS64AB rd rc rb | .sDCS64AL rd rc rb | .sAS64AB rd rc rb | .sAS64AL rd rc rb | .sCS64AB rd rc rb
  | .sCS64AL rd rc rb | .sMS64AB rd rc rb | .sMS64AL rd rc rb | .gAddH8C rd rc rb | .gAddH8F rd rc rb
  | .gAddH8N rd rc rb | .gAddH8Z rd rc rb | .gAddH16C rd rc rb | .gAddH16F rd rc rb | .gAddH16N rd rc rb
  | .gAddH16Z rd rc rb | .gAddH32C rd rc rb | .gAddH32F rd rc rb | .gAddH32N rd rc rb | .gAddH32Z rd rc rb
  | .gAddH64C rd rc rb | .gAddH64F rd rc rb | .gAddH64N rd rc rb | .gAddH64Z rd rc rb | .gAddH128C rd rc rb
  | .gAddH128F rd rc rb | .gAddH128N rd rc rb | .gAddH128Z rd rc rb | .gAddHU8C rd rc rb | .gAddHU8F rd rc rb
  | .gAddHU8N rd rc rb | .gAddHU16C rd rc rb | .gAddHU16F rd rc rb | .gAddHU16N rd rc rb | .gAddHU32C rd rc rb
  | .gAddHU32F rd rc rb | .gAddHU32N rd rc rb | .gAddHU64C rd rc rb | .gAddHU64F rd rc rb | .gAddHU64N rd rc rb
  | .gAddHU128C rd rc rb | .gAddHU128F rd rc rb | .gAddHU128N rd rc rb | .gAaa8 rd rc rb | .gAaa16 rd rc rb
  | .gAaa32 rd rc rb | .gAaa64 rd rc rb | .gAaa128 rd rc rb | .gAsa8 rd rc rb | .gAsa16 rd rc rb | .gAsa32 rd rc rb
  | .gAsa64 rd rc rb | .gAsa128 rd rc rb => [rd, rc, rb]
  | .lI8 rd rc _ | .lI16AB rd rc _ | .lI16B rd rc _ | .lI16AL rd rc _ | .lI16L rd rc _ | .lI32AB rd rc _
  | .lI32B rd rc _ | .lI32AL rd rc _ | .lI32L rd rc _ | .lI64AB rd rc _ | .lI64B rd rc _ | .lI64AL rd rc _
  | .lI64L rd rc _ | .lI128AB rd rc _ | .lI128B rd rc _ | .lI128AL rd rc _ | .lI128L rd rc _ | .lIU8 rd rc _
  | .lIU16AB rd rc _ | .lIU16B rd rc _ | .lIU16AL rd rc _ | .lIU16L rd rc _ | .lIU32AB rd rc _ | .lIU32B rd rc _
  | .lIU32AL rd rc _ | .lIU32L rd rc _ | .lIU64AB rd rc _ | .lIU64B rd rc _ | .lIU64AL rd rc _ | .lIU64L rd rc _
  | .sI8 rd rc _ | .sI16AB rd rc _ | .sI16B rd rc _ | .sI16AL rd rc _ | .sI16L rd rc _ | .sI32AB rd rc _
  | .sI32B rd rc _ | .sI32AL rd rc _ | .sI32L rd rc _ | .sI64AB rd rc _ | .sI64B rd rc _ | .sI64AL rd rc _
  | .sI64L rd rc _ | .sI128AB rd rc _ | .sI128B rd rc _ | .sI128AL rd rc _ | .sI128L rd rc _ | .sMuxi64AB rd rc _
  | .sMuxi64AL rd rc _ | .aAddI rd rc _ | .aAddIO rd rc _ | .aAddIUO rd rc _ | .aAndI rd rc _ | .aNandI rd rc _
  | .aNorI rd rc _ | .aOrI rd rc _ | .aXorI rd rc _ | .aSetAndEI rd rc _ | .aSetAndNeI rd rc _ | .aSetEI rd rc _
  | .aSetGeI rd rc _ | .aSetLI rd rc _ | .aSetNeI rd rc _ | .aSetGeIU rd rc _ | .aSetLIU rd rc _ | .aSubI rd rc _
  | .aSubIO rd rc _ | .aSubIUO rd rc _ | .aShlI rd rc _ | .aShlIO rd rc _ | .aShlIUO rd rc _ | .aShrI rd rc _
  | .aShrIU rd rc _ | .bAndE rd rc _ | .bAndNe rd rc _ | .bE rd rc _ | .bGe rd rc _ | .bL rd rc _ | .bNe rd rc _
  | .bGeU rd rc _ | .bLU rd rc _ | .bEF16 rd rc _ | .bEF32 rd rc _ | .bEF64 rd rc _ | .bEF128 rd rc _
  | .bGeF16 rd rc _ | .bGeF32 rd rc _ | .bGeF64 rd rc _ | .bGeF128 rd rc _ | .bLF16 rd rc _ | .bLF32 rd rc _
  | .bLF64 rd rc _ | .bLF128 rd rc _ | .bLgF16 rd rc _ | .bLgF32 rd rc _ | .bLgF64 rd rc _ | .bLgF128 rd rc _
  | .bIF32 rd rc _ | .bNiF32 rd rc _ | .bNvF32 rd rc _ | .bVF32 rd rc _ | .sASI64AB rd rc _ | .sASI64AL rd rc _
  | .sCSI64AB rd rc _ | .sCSI64AL rd rc _ | .sMSI64AB rd rc _ | .sMSI64AL rd rc _ | .gAddI16 rd rc _
  | .gAddI16O rd rc _ | .gAddI32 rd rc _ | .gAddI32O rd rc _ | .gAddI64 rd rc _ | .gAddI64O rd rc _
  | .gAddI128 rd rc _ | .gAddI128O rd rc _ | .gAddIU16O rd rc _ | .gAddIU32O rd rc _ | .gAddIU64O rd rc _
  | .gAddIU128O rd rc _ | .gAndI16 rd rc _ | .gAndI32 rd rc _ | .gAndI64 rd rc _ | .gAndI128 rd rc _
  | .gNandI16 rd rc _ | .gNandI32 rd rc _ | .gNandI64 rd rc _ | .gNandI128 rd rc _ | .gNorI16 rd rc _
  | .gNorI32 rd rc _ | .gNorI64 rd rc _ | .gNorI128 rd rc _ | .gOrI16 rd rc _ | .gOrI32 rd rc _ | .gOrI64 rd rc _
  | .gOrI128 rd rc _ | .gXorI16 rd rc _ | .gXorI32 rd rc _ | .gXorI64 rd rc _ | .gXorI128 rd rc _
  | .gSetAndEI16 rd rc _ | .gSetAndEI32 rd rc _ | .gSetAndEI64 rd rc _ | .gSetAndEI128 rd rc _
  | .gSetAndNeI16 rd rc _ | .gSetAndNeI32 rd rc _ | .gSetAndNeI64 rd rc _ | .gSetAndNeI128 rd rc _
  | .gSetEI16 rd rc _ | .gSetEI32 rd rc _ | .gSetEI64 rd rc _ | .gSetEI128 rd rc _ | .gSetGeI16 rd rc _
  | .gSetGeI32 rd rc _ | .gSetGeI64 rd rc _ | .gSetGeI128 rd rc _ | .gSetGeIU16 rd rc _ | .gSetGeIU32 rd rc _
  | .gSetGeIU64 rd rc _ | .gSetGeIU128 rd rc _ | .gSetLI16 rd rc _ | .gSetLI32 rd rc _ | .gSetLI64 rd rc _
  | .gSetLI128 rd rc _ | .gSetLIU16 rd rc _ | .gSetLIU32 rd rc _ | .gSetLIU64 rd rc _ | .gSetLIU128 rd rc _
  | .gSetNeI16 rd rc _ | .gSetNeI32 rd rc _ | .gSetNeI64 rd rc _ | .gSetNeI128 rd rc _ | .gSubI16 rd rc _
  | .gSubI16O rd rc _ | .gSubI32 rd rc _ | .gSubI32O rd rc _ | .gSubI64 rd rc _ | .gSubI64O rd rc _
  | .gSubI128 rd rc _ | .gSubI128O rd rc _ | .gSubIU16O rd rc _ | .gSubIU32O rd rc _ | .gSubIU64O rd rc _
  | .gSubIU128O rd rc _ => [rd, rc]
  | .aRes _ | .bI _ => []
  | .aComAndE rd rc | .aComAndNe rd rc | .aComE rd rc | .aComGe rd rc | .aComGeU rd rc | .aComL rd rc | .aComLU rd rc
  | .aComNe rd rc => [rd, rc]
  | .aCopyI rd _ => [rd]
  | .aShlIAdd rd rc rb _ | .aShlISub rd rc rb _ | .gShlIAdd8 rd rc rb _ | .gShlIAdd16 rd rc rb _
  | .gShlIAdd32 rd rc rb _ | .gShlIAdd64 rd rc rb _ | .gShlIAdd128 rd rc rb _ | .gShlISub8 rd rc rb _
  | .gShlISub16 rd rc rb _ | .gShlISub32 rd rc rb _ | .gShlISub64 rd rc rb _
  | .gShlISub128 rd rc rb _ => [rd, rc, rb]
  | .aMux rd rc rb ra => [rd, rc, rb, ra]
  | .b rd rc rb | .bBarrier rd rc rb | .bDown rd rc rb => registersIf (rc = 0 ∧ rb = 0) [rd]
  | .bBack rd rc rb => registersIf (rd = 0 ∧ rc = 0 ∧ rb = 0) [0]
  | .bGate rd rc rb => registersIf (rd = 0 ∧ rc = 1) [0, 1, rb]
  | .bHalt _ _ _ | .bHintI _ _ _ => []
  | .bHint rd _ _ => [rd]
  | .bLinkI _ => [0]
  | .bLink rd rc rb => registersIf (rb = 0) [rd, rc]
  | .gCopyI16 sign rd _ => registersIf (sign = 0) [rd]
  | .gCopyI32 _ rd _ | .gCopyI64 _ rd _ | .gCopyI128 _ rd _ => [rd]

/-- The word of an instruction under the model's own map. -/
def encode (i : Instr) : Word := encodeWith opcodeMap i

/-- The instruction of a word of spec/opcode_table.json: its four bytes as `FetchOrder = L` stores them, decoded under
the model's own map. -/
noncomputable def decodeTableWord (nbits w : Nat) : Option Instr :=
  if nbits ≤ 32 then
    match decode (Machine.assemble .little 32 (Machine.disassemble .little 4 (BitVec.ofNat 32 w))) with
    | .instr i => some i
    | .reserved => none
    | .unassigned => none
  else none

end Sys2Proof
end

