-- ==== Sys2Proof/Machine/State.lean ====
section
/-! DEFINITION. The state of the machine as plain data, the exceptions, the reasons a run stops, and the state after
reset (10_state.md, 60_exceptions.md section 1, 70_reset_and_hazards.md section 1). -/

namespace Sys2Proof.Machine

/-- The exceptions an instruction of the document can raise, by name (60_exceptions.md rule R901,
92_eei_decisions.md D10).  The thirteenth name, "bus error machine check", comes from bus pins only and is outside
the model (60_exceptions.md rules R932 and R933). -/
inductive Exn where
  /-- "Reserved Instruction" -/
  | reservedInstruction
  /-- "Fixed-point arithmetic" -/
  | fixedPointArithmetic
  /-- "Gateway disallowed" -/
  | gatewayDisallowed
  /-- one of the nine access exceptions -/
  | access (e : AccessFault)
deriving DecidableEq, Repr

/-- Why the machine stops with a fault. -/
inductive Fault where
  /-- Raised by `State.raiseExn` under the default of the parameter `TrapEntry`: the final state `Fault(name, pc)` of
  60_exceptions.md rule R907, `pc` the address of the instruction that raised.  Safe: the spec ends the run here, so
  nothing that happens afterwards can be claimed. -/
  | raised (e : Exn) (pc : Octlet)
deriving DecidableEq, Repr

/-- Why the model has no step. -/
inductive Refusal where
  /-- Raised by an arm of `exec` whose instruction has no meaning yet.  Safe: nothing can be claimed of it. -/
  | notModelled (mnemonic : String)
  /-- Raised by the access functions when the bytes of an access would run past address 2^64 - 1: no meaning in the
  source, the model refuses it (20_memory.md rule R106).  Safe. -/
  | accessPastEnd
  /-- Raised by the access functions, after every byte of the access has been translated, when one lies at an I/O address:
  the spec names no device and no instruction that reaches the I/O kind of transaction (10_state.md rule R63,
  20_memory.md rules R105 and R107; notes/assumptions/24.md).  Safe. -/
  | ioTransaction
  /-- Raised by `step` for an instruction word that the operation-code map assigns to no instruction: `Unassigned`
  (30_encoding.md rule R161, 93_implementation_defined.md U1).  Safe. -/
  | unassignedWord (w : Word)
  /-- Raised by `step` for an instruction word with a register field that names none of the `NREG` registers, which can
  happen only if the parameter `NREG` is below the 64 that 10_state.md rule R41 takes (notes/assumptions/23.md).  Safe. -/
  | missingRegister (w : Word)
deriving DecidableEq, Repr

/-- Memory: the bytes that differ from what an unlisted address reads as, by physical address, in one canonical form
(addresses strictly rising, no entry equal to the unlisted value). -/
structure Memory where
  cells : List Host.Cell
deriving DecidableEq, Repr

/-- What a byte nothing has written reads as.  DESIGN CHOICE 0, unsafe (notes/assumptions/8.md): the launcher chooses
the contents of memory (10_state.md rule R70, 70_reset_and_hazards.md rule R964). -/
def Memory.unlisted : Byte := 0

/-- Memory with nothing listed. -/
def Memory.empty : Memory := { cells := [] }

/-- Every piece of state the spec gives the machine (10_state.md), and the model's own two fields `stale` and `draws`. -/
structure State where
  /-- the general registers `x[0]` to `x[63]`, 128 bits each (10_state.md rules R40 to R42); under a parameter
  `NREG` below 64 no instruction that runs names the later ones (notes/assumptions/23.md) -/
  regs : Vector Hexlet 64
  /-- `ProgramCounter`, 64 bits (10_state.md rule R50) -/
  pc : Octlet
  /-- `PrivilegeLevel`, 2 bits (10_state.md rule R55) -/
  privilegeLevel : Level
  /-- `ExceptionState`, of unknown width: its only known operation is "set to 0" (10_state.md rule R56) -/
  exceptionState : Nat
  /-- `ExceptionBase`, a 64-bit address (10_state.md rule R57) -/
  exceptionBase : Octlet
  /-- `Thread`, the number of the executing thread (10_state.md rule R58) -/
  thread : Octlet
  /-- the terminal state `Halted` entered by B.HALT (43_branch.md rule R566) -/
  halted : Bool
  /-- memory (10_state.md rules R62 and R63) -/
  mem : Memory
  /-- for every byte stored since the last B.BARRIER, its address and the contents the store replaced, the latest store
  first: what a fetch may still observe (20_memory.md rule R110) -/
  stale : List Host.Cell
  /-- the MODEL's own: how many free values have been drawn (notes/assumptions/3.md) -/
  draws : Nat
  /-- the parameters a step reads (00_scope.md rule R7), which no step changes -/
  params : Params
deriving DecidableEq, Repr

/-- What one step, or the meaning of one instruction, answers. -/
abbrev Result := Host.Outcome State Fault Refusal

/-- What the launcher supplies (70_reset_and_hazards.md rule R964): the parameters a step reads, `ResetPC`, `ResetPL`,
values for the registers, `ExceptionBase`, `Thread`, and the memory image. -/
structure Launch where
  params : Params
  resetPC : Octlet
  resetPL : Level
  regs : Vector Hexlet 64
  exceptionBase : Octlet
  thread : Octlet
  image : Memory
deriving DecidableEq, Repr

/-- The machine after reset under a launch (10_state.md rule R70, 70_reset_and_hazards.md rules R962 and R964).  The
value of `ExceptionState` is the model's (notes/assumptions/6.md). -/
def State.launch (l : Launch) : State :=
  { regs := l.regs
    pc := l.resetPC
    privilegeLevel := l.resetPL
    exceptionState := 0
    exceptionBase := l.exceptionBase
    thread := l.thread
    halted := false
    mem := l.image
    stale := []
    draws := 0
    params := l.params }

end Sys2Proof.Machine

namespace Sys2Proof.Config

/-- Free value: the parameter `TrapEntry` under `TrapEntry = continues`, the state change a raised exception makes in a
state (60_exceptions.md rule R907, 93_implementation_defined.md U9; notes/assumptions/10.md). -/
opaque trapEntry : Machine.Exn → Machine.State → TrapEffect

/-- The recommended value of every parameter of 00_scope.md rule R7 that a step reads; `OpcodeMap`, which has none, is
the model's own (notes/assumptions/1.md). -/
def defaultParams : Params :=
  { nreg := 64
    opcodeMap := opcodeMap
    fetchOrder := .little
    upperWrite := .draw
    translation := identityTranslation
    trapEntry := .final
    fpCompare := .ieee754
    uoReading := .zextBoth
    f1Const := 0x3F800000#32
    compareWidth := .w128 }

/-- The launch of `State.reset`: the recommended parameters, an empty memory image, and 0 where the spec recommends
nothing (notes/assumptions/4.md, 5.md, 6.md and 8.md). -/
def defaultLaunch : Machine.Launch :=
  { params := defaultParams
    resetPC := resetPC
    resetPL := resetPL
    regs := Vector.replicate 64 0
    exceptionBase := 0
    thread := 0
    image := Machine.Memory.empty }

end Sys2Proof.Config

namespace Sys2Proof.Machine

/-- The machine after reset (10_state.md rule R70, 70_reset_and_hazards.md rule R962), with the parameters at the
values 00_scope.md rule R7 recommends.  The values of the registers, of `ExceptionState`, `ExceptionBase`, `pc` and
memory are the model's (notes/assumptions/4.md, 5.md, 6.md and 8.md). -/
def State.reset : State := State.launch Config.defaultLaunch

end Sys2Proof.Machine
end

