-- ==== Sys2Proof/Machine/Ops.lean ====
section
/-! DEFINITION. The named operations over registers, memory and the privilege state: the one place where each of them is
read or written, where an exception is taken, and where a return from one is made. -/

namespace Sys2Proof.Machine

/-! ### Registers (10_state.md section 1) -/

/-- `RegRead(r, 128)` (00_scope.md rule R12). -/
def State.reg (s : State) (r : Reg) : Hexlet := s.regs[r.toNat]'r.isLt

/-- `RegRead(r, 64)`: the low 64 bits (00_scope.md rule R12, 92_eei_decisions.md D5). -/
def State.lo (s : State) (r : Reg) : Octlet := (s.reg r).setWidth 64

/-- Bits 127..64 of a register. -/
def State.hi (s : State) (r : Reg) : Octlet := (s.reg r).extractLsb' 64 64

/-- `RegWrite(r, 128, v)` (00_scope.md rule R12).  No register is hardwired (10_state.md rule R42). -/
def State.setReg (s : State) (r : Reg) (v : Hexlet) : State :=
  { s with regs := s.regs.set r.toNat v r.isLt }

/-- What `RegWrite(r, 64, v)` leaves in bits 127..64, as `RegWrite64Upper` says (10_state.md rule R45).  Under `draw`
it is a free value. -/
def State.upperAfter (s : State) (r : Reg) (v : Octlet) : Octlet :=
  match s.params.upperWrite with
  | .draw => Config.freeUpper s.draws
  | .zero => 0#64
  | .sext => v.sshiftRight 63
  | .preserve => s.hi r

/-- `RegWrite(r, 64, v)` (10_state.md rule R45); the count of draws goes up at each such write, so that a value drawn is
a fresh one. -/
def State.setReg64 (s : State) (r : Reg) (v : Octlet) : State :=
  { s.setReg r (s.upperAfter r v ++ v) with draws := s.draws + 1 }

/-- Every register of the list is one of the `NREG` of the machine (10_state.md rule R41). -/
def State.hasRegisters (s : State) (rs : List Reg) : Bool := rs.all fun r => r.toNat < s.params.nreg

/-! ### The program counter (10_state.md section 2) -/

/-- The instruction is followed by the one at `pc + 4`, modulo 2^64 (10_state.md rules R51 and R52). -/
def State.advance (s : State) : State := { s with pc := s.pc + 4#64 }

/-- A taken branch: `pc <- target` (00_scope.md rule R15, 43_branch.md rule R502). -/
def State.jump (s : State) (target : Octlet) : State := { s with pc := target }

/-- `r[63:2] || 0^2`, the target of a register branch (43_branch.md rule R501). -/
def wordTarget (r : Octlet) : Octlet := r.extractLsb' 2 62 ++ 0#2

/-! ### Exceptions by name -/

/-- "Access disallowed by virtual address" as the alignment and target tests raise it. -/
def Exn.badAddress : Exn := .access .disallowedByVirtualAddress

/-! ### Privilege (60_exceptions.md section 4) -/

/-- The privilege level is lowered to `p` if it is above it, and otherwise stays (43_branch.md rules R520 and R555). -/
def State.lowerPrivilege (s : State) (p : Level) : State :=
  { s with privilegeLevel := if p < s.privilegeLevel then p else s.privilegeLevel }

/-- The privilege level a gateway grants (43_branch.md rule R560). -/
def State.setPrivilege (s : State) (p : Level) : State := { s with privilegeLevel := p }

/-- `ExceptionState <- 0` (43_branch.md rule R520). -/
def State.clearExceptionState (s : State) : State := { s with exceptionState := 0 }

/-- `FetchHalt()`: the terminal state `Halted`, everything else as it was (43_branch.md rule R566). -/
def State.halt (s : State) : State := { s with halted := true }

/-! ### Memory (20_memory.md) -/

/-- The cells with a nonzero byte put in its place. -/
def insertCell (a : Nat) (v : Byte) : List Host.Cell → List Host.Cell
  | [] => [(a, v)]
  | c :: cs => if a < c.1 then (a, v) :: c :: cs else c :: insertCell a v cs

/-- The byte listed at an address, or the unlisted value. -/
def readCells : List Host.Cell → Nat → Byte
  | [], _ => Memory.unlisted
  | c :: cs, a => if c.1 = a then c.2 else readCells cs a

/-- `MemRead(pa, 1)` (00_scope.md rule R13): one byte, at every physical address. -/
def Memory.read (m : Memory) (a : Nat) : Byte := readCells m.cells a

/-- `MemWrite(pa, 1, v)` (00_scope.md rule R13), keeping the canonical form. -/
def Memory.write (m : Memory) (a : Nat) (v : Byte) : Memory :=
  let rest := m.cells.filter fun c => c.1 ≠ a
  { cells := if v = Memory.unlisted then rest else insertCell a v rest }

/-- Addresses strictly rising and no entry equal to the unlisted value. -/
def canonical : List Host.Cell → Bool
  | [] => true
  | c :: cs => (c.2 != Memory.unlisted) && cs.all (fun d => c.1 < d.1) && canonical cs

/-- The canonical form of memory. -/
def Memory.wf (m : Memory) : Bool := canonical m.cells

/-- Memory lists physical addresses only (20_memory.md rule R107). -/
def Memory.inSpace (m : Memory) : Bool := m.cells.all fun c => c.1 < physicalSpace

/-- One byte stored: memory holds the new contents, and a fetch may still observe the old ones until the next B.BARRIER
(20_memory.md rules R93 and R110). -/
def State.storeByte (s : State) (a : Nat) (v : Byte) : State :=
  { s with mem := s.mem.write a v, stale := (a, s.mem.read a) :: s.stale }

/-- `FetchBarrier()`: every later fetch observes every store made before (20_memory.md rules R109 and R110). -/
def State.fetchBarrier (s : State) : State := { s with stale := [] }

/-- Bytes stored one by one, each at its physical address, the first of the list first. -/
def State.storeCells (s : State) : List (BitVec 32 × Byte) → State
  | [] => s
  | c :: cs => (s.storeByte c.1.toNat c.2).storeCells cs

/-! ### Taking an exception (60_exceptions.md section 3) -/

/-- TRAP ENTRY where the run goes on: the registers, `PrivilegeLevel`, `ExceptionState`, `pc` and memory become what
`Config.trapEntry` makes of the exception and the state, in which the instruction that raised has changed nothing
(60_exceptions.md rules R907 and R908; notes/assumptions/10.md). -/
def State.enterTrap (s : State) (e : Exn) : State :=
  let t := Config.trapEntry e s
  ({ s with
      regs := t.regs, pc := t.handler ++ 0#2, privilegeLevel := t.privilegeLevel
      exceptionState := t.exceptionState }).storeCells t.stores

/-- TAKING AN EXCEPTION, for every `raise` of the document: no register, byte of memory, `pc` or `PrivilegeLevel` has
been changed by the instruction that raised (60_exceptions.md rule R907, 92_eei_decisions.md D8 and D9).  What follows
is the parameter `TrapEntry`: by default the run ends in `Fault(name, pc)`, `pc` the address of the raising
instruction. -/
def State.raiseExn (s : State) (e : Exn) : Result :=
  match s.params.trapEntry with
  | .final => .fault (.raised e s.pc)
  | .continues => .next (s.enterTrap e)

/-! ### Accesses (20_memory.md sections 2 and 3) -/

/-- What an access function answers: a value, an exception, or a refusal. -/
inductive Access (α : Type) where
  | ok (a : α)
  | raised (e : AccessFault)
  | refused (r : Refusal)
deriving Repr

/-- Whether a rule of the translation covers an access. -/
def XlatRule.covers (x : XlatRule) (ba va : Octlet) (kind : AccessKind) (pl : Level) : Bool :=
  x.baLo ≤ ba.toNat && ba.toNat < x.baHi && x.vaLo ≤ va.toNat && va.toNat < x.vaHi &&
    x.kinds.contains kind && x.levels.contains pl

/-- `Translate(ba, va, kind, pl)` (20_memory.md rule R101): the first rule that covers the access decides; an address
that no rule covers is outside `MemDomain` (20_memory.md rule R102).  A physical address has 32 bits
(20_memory.md rule R107). -/
def translateBy : List XlatRule → Octlet → Octlet → AccessKind → Level → Access PhysicalAddress
  | [], _, _, _, _ => .raised .disallowedByVirtualAddress
  | x :: xs, ba, va, kind, pl =>
    if XlatRule.covers x ba va kind pl then
      match x.action with
      | .map kind base => .ok { transaction := kind, address := (base + BitVec.ofNat 32 (va.toNat - x.vaLo)).toNat }
      | .raise e => .raised e
    else translateBy xs ba va kind pl

/-- `Translate` at the current privilege level (20_memory.md rule R90). -/
def State.translate (s : State) (kind : AccessKind) (ba va : Octlet) : Access PhysicalAddress :=
  translateBy s.params.translation ba va kind s.privilegeLevel

/-- The physical addresses of the `n` bytes from `va` on, or the exception of the first that has none
(20_memory.md rule R90). -/
def State.translateBytes (s : State) (kind : AccessKind) (ba : Octlet) : Octlet → Nat → Access (List PhysicalAddress)
  | _, 0 => .ok []
  | va, n + 1 =>
    match s.translate kind ba va with
    | .ok pa =>
      match s.translateBytes kind ba (va + 1#64) n with
      | .ok pas => .ok (pa :: pas)
      | .raised e => .raised e
      | .refused r => .refused r
    | .raised e => .raised e
    | .refused r => .refused r

/-- The addresses in memory of bytes whose physical addresses are given; bytes at I/O addresses are refused
(20_memory.md rule R107; notes/assumptions/24.md). -/
def inMemory (ps : List PhysicalAddress) : Access (List Nat) :=
  if ps.all fun p => p.transaction = .memory then .ok (ps.map PhysicalAddress.address) else .refused .ioTransaction

/-- The addresses in memory of an access of `n` bytes at `va`, every byte translated first (20_memory.md rule R90); an
access that would run past 2^64 - 1 is refused (20_memory.md rule R106). -/
def State.span (s : State) (kind : AccessKind) (ba va : Octlet) (n : Nat) : Access (List Nat) :=
  if va.toNat + n ≤ 2 ^ 64 then
    match s.translateBytes kind ba va n with
    | .ok ps => inMemory ps
    | .raised e => .raised e
    | .refused r => .refused r
  else .refused .accessPastEnd

/-- `LoadMemory(ba, va, size, order)` with the access kind as an argument: kind `Read` is `LoadMemory`, kind `Write` is
`LoadMemoryW`, kind `Gateway` is `LoadMemoryG` (20_memory.md rules R90, R91 and R92). -/
def State.loadMemory (s : State) (kind : AccessKind) (ba va : Octlet) (size : Nat) (ord : ByteOrder) :
    Access (BitVec size) :=
  match s.span kind ba va (size / 8) with
  | .ok pas => .ok (assemble ord size (pas.map s.mem.read))
  | .raised e => .raised e
  | .refused r => .refused r

/-- Bytes stored one by one, the lowest address of the access first. -/
def State.storeBytes (s : State) : List Nat → List Byte → State
  | pa :: pas, v :: vs => (s.storeByte pa v).storeBytes pas vs
  | _, _ => s

/-- `StoreMemory(ba, va, size, order, data)`: all bytes are translated before any is written (20_memory.md rule R93). -/
def State.storeMemory (s : State) (ba va : Octlet) (size : Nat) (ord : ByteOrder) (data : BitVec size) :
    Access State :=
  match s.span .write ba va (size / 8) with
  | .ok pas => .ok (s.storeBytes pas (disassemble ord (size / 8) data))
  | .raised e => .raised e
  | .refused r => .refused r

/-- An access inside an instruction: its exception is the instruction's, its refusal too, its value goes on. -/
def Access.andThen {α : Type} (x : Access α) (s : State) (k : α → Result) : Result :=
  match x with
  | .ok a => k a
  | .raised e => s.raiseExn (.access e)
  | .refused r => .refused r

/-! ### Return from an exception, and instruction fetch -/

/-- THE RETURN FROM AN EXCEPTION, B.BACK after its field test (43_branch.md rule R520, 60_exceptions.md rule R940): the
thread's `x[0]` is reloaded from the 16 bytes at `ExceptionBase + Thread*128`, the level is lowered to the one the old
`x[0]` names, the program goes on at the address it names, and `ExceptionState` is 0. -/
def State.returnFromException (s : State) : Result :=
  let c := s.lo 0
  (s.loadMemory .read s.exceptionBase (s.exceptionBase + s.thread * 128#64) 128 .little).andThen s fun a =>
    .next ((((s.lowerPrivilege (c.setWidth 2)).jump (wordTarget c)).clearExceptionState).setReg 0 a)

/-- The earlier contents of a byte that a fetch may still observe (20_memory.md rule R110). -/
def State.staleAt (s : State) (a : Nat) : List Byte := (s.stale.filter fun c => c.1 = a).map Prod.snd

/-- The byte a fetch observes at a physical address: the contents, or, where the thread has stored since the last
B.BARRIER, a free one of the contents the byte has held since (20_memory.md rule R110). -/
def State.fetchByte (s : State) (k a : Nat) : Byte :=
  match s.staleAt a with
  | [] => s.mem.read a
  | old => (s.mem.read a :: old).getD (Config.fetchChoice (s.draws + k) % (old.length + 1)) 0

/-- The bytes a fetch observes at a list of physical addresses, the `k`-th byte first. -/
def State.fetchBytes (s : State) : Nat → List Nat → List Byte
  | _, [] => []
  | k, a :: as => s.fetchByte k a :: s.fetchBytes (k + 1) as

/-- Four free choices have been used when a byte of the word could be observed old. -/
def State.drawnAfterFetch (s : State) (pas : List Nat) : State :=
  { s with draws := if pas.all fun a => s.staleAt a = [] then s.draws else s.draws + 4 }

/-- Instruction fetch: the word of the four bytes at `pc`, through `Translate` with kind `Execute` (60_exceptions.md
rule R903, 92_eei_decisions.md D32), in `FetchOrder` (20_memory.md rule R96), and the state after the free choices it
used.  The source names no base register for a fetch; `ba` is `pc` (notes/assumptions/11.md). -/
def State.fetch (s : State) : Access (Word × State) :=
  match s.span .execute s.pc s.pc 4 with
  | .ok pas => .ok (assemble s.params.fetchOrder 32 (s.fetchBytes 0 pas), s.drawnAfterFetch pas)
  | .raised e => .raised e
  | .refused r => .refused r

/-- A byte placed by the launcher: memory holds it and no older contents can be observed there
(70_reset_and_hazards.md rule R964). -/
def State.launchByte (s : State) (a : Nat) (v : Byte) : State :=
  { s with mem := s.mem.write a v, stale := s.stale.filter fun c => c.1 ≠ a }

/-- Bytes placed by the launcher. -/
def State.launchBytes (s : State) : List Nat → List Byte → State
  | pa :: pas, v :: vs => (s.launchByte pa v).launchBytes pas vs
  | _, _ => s

/-- The four bytes of an instruction word placed where the next fetch reads them, in a machine that is not halted. -/
def State.placeWord (s : State) (w : Word) : State :=
  match s.span .execute s.pc s.pc 4 with
  | .ok pas => { s.launchBytes pas (disassemble s.params.fetchOrder 4 w) with halted := false }
  | .raised _ => s
  | .refused _ => s

end Sys2Proof.Machine
end

