-- ==== Sys2Proof/Machine/Operands.lean ====
section
/-! DEFINITION. Every operand form: effective addresses, alignment, immediates, branch displacements and lanes
(20_memory.md sections 1 and 4, 30_encoding.md section 3, 45_group_arith.md rule R700). -/

namespace Sys2Proof.Machine

/-! ### Effective addresses (20_memory.md section 1) -/

/-- Register-indexed forms: `c + b * (size/8)` modulo 2^64 (20_memory.md rule R81). -/
def State.indexedAddress (s : State) (rc rb : Reg) (size : Nat) : Octlet :=
  s.lo rc + s.lo rb * BitVec.ofNat 64 (size / 8)

/-- Immediate forms: `c + sext_64(offset) * (size/8)` modulo 2^64 (20_memory.md rule R82). -/
def State.offsetAddress (s : State) (rc : Reg) (offset : BitVec 12) (size : Nat) : Octlet :=
  s.lo rc + offset.signExtend 64 * BitVec.ofNat 64 (size / 8)

/-- Whether the mnemonic has an `A` (20_memory.md rule R97). -/
inductive Alignment where
  | unaligned
  | aligned
deriving DecidableEq, Repr

/-- The alignment test: the low `log(size)-3` bits of the base are not zero (20_memory.md rules R97 and R98). -/
def misaligned (c : Octlet) (size : Nat) : Bool := c &&& BitVec.ofNat 64 (size / 8 - 1) != 0#64

/-- Whether a form raises on its base register: only an aligned form tests it (20_memory.md rules R97 and R99). -/
def Alignment.rejects (al : Alignment) (c : Octlet) (size : Nat) : Bool :=
  match al with
  | .unaligned => false
  | .aligned => misaligned c size

/-- How a loaded value fills the register (40_load.md rule R203). -/
inductive Extension where
  | signed
  | unsigned
deriving DecidableEq, Repr

/-- `rep(m[size-1] and signed, 128-size) || m` (40_load.md rule R203). -/
def Extension.extend {size : Nat} (x : Extension) (m : BitVec size) : Hexlet :=
  match x with
  | .signed => m.signExtend 128
  | .unsigned => m.setWidth 128

/-! ### Immediates and branch displacements (30_encoding.md section 3) -/

/-- `i <- rep(imm[11], 52) || imm` (30_encoding.md rule R143). -/
def addressImmediate (imm : BitVec 12) : Octlet := imm.signExtend 64

/-- `rep(imm[17], 110) || imm` (30_encoding.md rule R142). -/
def copyImmediate (imm : BitVec 18) : Hexlet := imm.signExtend 128

/-- The group immediate of a lane, `sext_size(imm)` (46_group_immediate.md rule R801). -/
def laneImmediate (size : Nat) (imm : BitVec 10) : BitVec size := imm.signExtend size

/-- The lane of G.COPY.I, the 17-bit value `s || imm` sign-extended (45_group_arith.md rule R704). -/
def copyLane (size : Nat) (sign : BitVec 1) (imm : BitVec 16) : BitVec size := (sign ++ imm).signExtend size

/-- `pc + (rep(offset[n-1], 62-n) || offset || 0^2)`, the target of an immediate branch
(30_encoding.md rules R144 and R145). -/
def State.branchTarget {n : Nat} (s : State) (offset : BitVec n) : Octlet := s.pc + (offset ++ 0#2).signExtend 64

/-- A register named as a branch target does not hold a multiple of 4 (43_branch.md rule R501). -/
def badTarget (r : Octlet) : Bool := r.setWidth 2 != 0#2

/-! ### Lanes (00_scope.md rule R17, 45_group_arith.md rule R700) -/

/-- Lane `k`: bits `k*size + size - 1` down to `k*size`. -/
def lane (size : Nat) (v : Hexlet) (k : Nat) : BitVec size := v.extractLsb' (k * size) size

/-- A register made of its first `n` lanes. -/
def packLanes (size : Nat) : Nat → (Nat → BitVec size) → Hexlet
  | 0, _ => 0#128
  | n + 1, f => packLanes size n f ||| ((f n).setWidth 128 <<< (n * size))

/-- A register made of all its `128 / size` lanes. -/
def ofLanes (size : Nat) (f : Nat → BitVec size) : Hexlet := packLanes size (128 / size) f

/-- A register made of lanes each of which may have failed its overflow test; nothing if any lane failed
(46_group_immediate.md rule R803). -/
def ofCheckedLanes (size : Nat) (f : Nat → Option (BitVec size)) : Option Hexlet :=
  if (List.range (128 / size)).all fun k => (f k).isSome then some (ofLanes size fun k => (f k).getD 0) else none

end Sys2Proof.Machine
end

