-- ==== Sys2Proof/Machine/Flags.lean ====
section
/-! DEFINITION. Overflow tests and comparisons.  The machine has no flags (10_state.md rule R60): overflow and the
compare instructions report by "Fixed-point arithmetic", the other comparisons by a mask or a branch. -/

namespace Sys2Proof.Machine

/-! ### Checked arithmetic on `n` bits (42_address.md rule R402, 46_group_immediate.md rule R803) -/

/-- The result of an `n+1`-bit sum or difference, nothing when `t[n] ≠ t[n-1]`. -/
def signedFit {n : Nat} (t : BitVec (n + 1)) : Option (BitVec n) :=
  if t.getLsbD n != t.getLsbD (n - 1) then none else some (t.setWidth n)

/-- The result of an `n+1`-bit sum or difference, nothing when `t[n] ≠ 0`. -/
def unsignedFit {n : Nat} (t : BitVec (n + 1)) : Option (BitVec n) :=
  if t.getLsbD n then none else some (t.setWidth n)

/-- `.O` addition: both operands sign-extended by one bit. -/
def addSigned {n : Nat} (x y : BitVec n) : Option (BitVec n) := signedFit (x.signExtend (n + 1) + y.signExtend (n + 1))

/-- `.U.O` addition: both operands zero-extended by one bit. -/
def addUnsigned {n : Nat} (x y : BitVec n) : Option (BitVec n) := unsignedFit (x.setWidth (n + 1) + y.setWidth (n + 1))

/-- `.O` subtraction `x - y`. -/
def subSigned {n : Nat} (x y : BitVec n) : Option (BitVec n) := signedFit (x.signExtend (n + 1) - y.signExtend (n + 1))

/-- `.U.O` subtraction `x - y`. -/
def subUnsigned {n : Nat} (x y : BitVec n) : Option (BitVec n) := unsignedFit (x.setWidth (n + 1) - y.setWidth (n + 1))

/-- The register operand of A.ADD.I.U.O and A.SUB.I.U.O in 65 bits, as `UOImmReading` says (42_address.md rule R403). -/
def uoRegister (u : UOReading) (c : Octlet) : BitVec 65 :=
  match u with
  | .literal => c.signExtend 65
  | .zextC => c.setWidth 65
  | .zextBoth => c.setWidth 65

/-- The immediate operand of A.ADD.I.U.O and A.SUB.I.U.O in 65 bits, as `UOImmReading` says (42_address.md rule R403). -/
def uoImmediate (u : UOReading) (i : Octlet) : BitVec 65 :=
  match u with
  | .literal => i.signExtend 65
  | .zextC => i.signExtend 65
  | .zextBoth => i.setWidth 65

/-- A.SHL.I.O: nothing unless the `simm + 1` top bits all equal the sign (42_address.md rule R465).
`c[63:63-simm] = rep(c[63], simm+1)` says that shifting right arithmetically by `63 - simm` leaves 64 copies of the
sign. -/
def shiftSigned (c : Octlet) (simm : Nat) : Option Octlet :=
  if c.sshiftRight (63 - simm) = c.sshiftRight 63 then some (c <<< simm) else none

/-- A.SHL.I.U.O: nothing unless the `simm` bits shifted out are zero; for `simm = 0` the field is empty
(42_address.md rule R466). -/
def shiftUnsigned (c : Octlet) (simm : Nat) : Option Octlet :=
  if c.extractLsb' (64 - simm) simm = 0#simm then some (c <<< simm) else none

/-! ### Comparisons (00_scope.md rule R11, 42_address.md rules R405 and R450) -/

/-- The eight comparisons of A.COM, A.SET, G.SET and the integer conditional branches. -/
inductive Relation where
  | andE
  | andNE
  | e
  | ne
  | ge
  | l
  | geU
  | lU
deriving DecidableEq, Repr

/-- The comparison of two values, the left operand first; `ge` and `l` are signed, `geU` and `lU` unsigned. -/
def Relation.holds {n : Nat} (r : Relation) (x y : BitVec n) : Bool :=
  match r with
  | .andE => x &&& y == 0#n
  | .andNE => x &&& y != 0#n
  | .e => x == y
  | .ne => x != y
  | .ge => y.sle x
  | .l => x.slt y
  | .geU => y.ule x
  | .lU => x.ult y

/-- The comparison when both register fields name the same register: the four ordered codes compare it with zero,
signed: `≥`, `<`, and for the `.U` codes `≤` and `>` (42_address.md rule R405). -/
def Relation.holdsSame {n : Nat} (r : Relation) (x : BitVec n) : Bool :=
  match r with
  | .andE => x == 0#n
  | .andNE => x != 0#n
  | .e => true
  | .ne => false
  | .ge => (0#n).sle x
  | .l => x.slt 0#n
  | .geU => x.sle 0#n
  | .lU => (0#n).slt x

/-- The comparison of two registers, the left one first, on their low `n` bits; the test for the same register is on
the register numbers (42_address.md rule R405). -/
def State.comparesAt (s : State) (n : Nat) (r : Relation) (left right : Reg) : Bool :=
  if left = right then r.holdsSame ((s.reg right).setWidth n)
  else r.holds ((s.reg left).setWidth n) ((s.reg right).setWidth n)

/-- The comparison of two registers on `W` bits, `W` the parameter `AddrCompareWidth` (42_address.md rule R450). -/
def State.compares (s : State) (r : Relation) (left right : Reg) : Bool :=
  match s.params.compareWidth with
  | .w64 => s.comparesAt 64 r left right
  | .w128 => s.comparesAt 128 r left right

/-- `n` copies of a truth value (00_scope.md rule R9). -/
def maskOf (n : Nat) (b : Bool) : BitVec n := if b then BitVec.allOnes n else 0#n

end Sys2Proof.Machine
end

