-- ==== Sys2Proof/Machine/Address.lean ====
section
/-! DEFINITION. The 59 address instructions (42_address.md): scalar arithmetic, logic, comparison and shifts on the low
halves of the registers. -/

namespace Sys2Proof.Machine

/-- `x[rd][63:0] <- a`, then the next instruction (42_address.md rule R401). -/
def addressWrite (rd : Reg) (a : Octlet) (s : State) : Result := .next (s.setReg64 rd a).advance

/-- The result of a checked form: "Fixed-point arithmetic" if it does not fit (42_address.md rule R402). -/
def addressChecked (rd : Reg) (a : Option Octlet) (s : State) : Result :=
  match a with
  | none => s.raiseExn .fixedPointArithmetic
  | some a => addressWrite rd a s

/-- A.SET: 64 copies of the truth value (42_address.md rule R404). -/
def addressSet (rd : Reg) (b : Bool) (s : State) : Result := addressWrite rd (maskOf 64 b) s

/-- A.COM: "Fixed-point arithmetic" if the condition holds of `x[rd]` and `x[rc]`, the whole effect of the instruction
(42_address.md rules R422 to R429). -/
def addressCompare (r : Relation) (rd rc : Reg) (s : State) : Result :=
  if s.compares r rd rc then s.raiseExn .fixedPointArithmetic else .next s.advance

/-- The sum of A.ADD.I.U.O under each reading, nothing when bit 64 is set (42_address.md rules R403 and R433). -/
def addUnsignedImmediate (u : UOReading) (c i : Octlet) : Option Octlet := unsignedFit (uoRegister u c + uoImmediate u i)

/-- The difference of A.SUB.I.U.O under each reading, nothing when bit 64 is set (42_address.md rules R403 and R449). -/
def subUnsignedImmediate (u : UOReading) (i c : Octlet) : Option Octlet := unsignedFit (uoImmediate u i - uoRegister u c)

/-- `A.RES` (42_address.md rule R410). -/
def execARes (_imm : BitVec 24) (s : State) : Result := s.raiseExn .reservedInstruction

/-- `A.ADD` (42_address.md rule R411). -/
def execAAdd (rd rc rb : Reg) (s : State) : Result := addressWrite rd (s.lo rc + s.lo rb) s

/-- `A.ADD.O` (42_address.md rule R412). -/
def execAAddO (rd rc rb : Reg) (s : State) : Result := addressChecked rd (addSigned (s.lo rc) (s.lo rb)) s

/-- `A.ADD.U.O` (42_address.md rule R413). -/
def execAAddUO (rd rc rb : Reg) (s : State) : Result := addressChecked rd (addUnsigned (s.lo rc) (s.lo rb)) s

/-- `A.AND` (42_address.md rule R414). -/
def execAAnd (rd rc rb : Reg) (s : State) : Result := addressWrite rd (s.lo rc &&& s.lo rb) s

/-- `A.ANDN` (42_address.md rule R415). -/
def execAAndn (rd rc rb : Reg) (s : State) : Result := addressWrite rd (s.lo rc &&& ~~~s.lo rb) s

/-- `A.NAND` (42_address.md rule R416). -/
def execANand (rd rc rb : Reg) (s : State) : Result := addressWrite rd (~~~(s.lo rc &&& s.lo rb)) s

/-- `A.NOR` (42_address.md rule R417). -/
def execANor (rd rc rb : Reg) (s : State) : Result := addressWrite rd (~~~(s.lo rc ||| s.lo rb)) s

/-- `A.OR` (42_address.md rule R418). -/
def execAOr (rd rc rb : Reg) (s : State) : Result := addressWrite rd (s.lo rc ||| s.lo rb) s

/-- `A.ORN` (42_address.md rule R419). -/
def execAOrn (rd rc rb : Reg) (s : State) : Result := addressWrite rd (s.lo rc ||| ~~~s.lo rb) s

/-- `A.XNOR` (42_address.md rule R420). -/
def execAXnor (rd rc rb : Reg) (s : State) : Result := addressWrite rd (~~~(s.lo rc ^^^ s.lo rb)) s

/-- `A.XOR` (42_address.md rule R421). -/
def execAXor (rd rc rb : Reg) (s : State) : Result := addressWrite rd (s.lo rc ^^^ s.lo rb) s

/-- `A.COM.AND.E` (42_address.md rule R422). -/
def execAComAndE (rd rc : Reg) (s : State) : Result := addressCompare .andE rd rc s

/-- `A.COM.AND.NE` (42_address.md rule R423). -/
def execAComAndNe (rd rc : Reg) (s : State) : Result := addressCompare .andNE rd rc s

/-- `A.COM.E` (42_address.md rule R424). -/
def execAComE (rd rc : Reg) (s : State) : Result := addressCompare .e rd rc s

/-- `A.COM.GE` (42_address.md rule R425). -/
def execAComGe (rd rc : Reg) (s : State) : Result := addressCompare .ge rd rc s

/-- `A.COM.GE.U` (42_address.md rule R426). -/
def execAComGeU (rd rc : Reg) (s : State) : Result := addressCompare .geU rd rc s

/-- `A.COM.L` (42_address.md rule R427). -/
def execAComL (rd rc : Reg) (s : State) : Result := addressCompare .l rd rc s

/-- `A.COM.L.U` (42_address.md rule R428). -/
def execAComLU (rd rc : Reg) (s : State) : Result := addressCompare .lU rd rc s

/-- `A.COM.NE` (42_address.md rule R429). -/
def execAComNe (rd rc : Reg) (s : State) : Result := addressCompare .ne rd rc s

/-- `A.COPY.I` (42_address.md rule R430). -/
def execACopyI (rd : Reg) (imm : BitVec 18) (s : State) : Result := .next (s.setReg rd (copyImmediate imm)).advance

/-- `A.ADD.I` (42_address.md rule R431). -/
def execAAddI (rd rc : Reg) (imm : BitVec 12) (s : State) : Result :=
  addressWrite rd (s.lo rc + addressImmediate imm) s

/-- `A.ADD.I.O` (42_address.md rule R432). -/
def execAAddIO (rd rc : Reg) (imm : BitVec 12) (s : State) : Result :=
  addressChecked rd (addSigned (s.lo rc) (addressImmediate imm)) s

/-- `A.ADD.I.U.O` (42_address.md rule R433). -/
def execAAddIUO (rd rc : Reg) (imm : BitVec 12) (s : State) : Result :=
  addressChecked rd (addUnsignedImmediate s.params.uoReading (s.lo rc) (addressImmediate imm)) s

/-- `A.AND.I` (42_address.md rule R434). -/
def execAAndI (rd rc : Reg) (imm : BitVec 12) (s : State) : Result :=
  addressWrite rd (s.lo rc &&& addressImmediate imm) s

/-- `A.NAND.I` (42_address.md rule R435). -/
def execANandI (rd rc : Reg) (imm : BitVec 12) (s : State) : Result :=
  addressWrite rd (~~~(s.lo rc &&& addressImmediate imm)) s

/-- `A.NOR.I` (42_address.md rule R436). -/
def execANorI (rd rc : Reg) (imm : BitVec 12) (s : State) : Result :=
  addressWrite rd (~~~(s.lo rc ||| addressImmediate imm)) s

/-- `A.OR.I` (42_address.md rule R437). -/
def execAOrI (rd rc : Reg) (imm : BitVec 12) (s : State) : Result :=
  addressWrite rd (s.lo rc ||| addressImmediate imm) s

/-- `A.XOR.I` (42_address.md rule R438). -/
def execAXorI (rd rc : Reg) (imm : BitVec 12) (s : State) : Result :=
  addressWrite rd (s.lo rc ^^^ addressImmediate imm) s

/-- `A.SET.AND.E.I` (42_address.md rule R439). -/
def execASetAndEI (rd rc : Reg) (imm : BitVec 12) (s : State) : Result :=
  addressSet rd (Relation.holds .andE (addressImmediate imm) (s.lo rc)) s

/-- `A.SET.AND.NE.I` (42_address.md rule R440). -/
def execASetAndNeI (rd rc : Reg) (imm : BitVec 12) (s : State) : Result :=
  addressSet rd (Relation.holds .andNE (addressImmediate imm) (s.lo rc)) s

/-- `A.SET.E.I` (42_address.md rule R441). -/
def execASetEI (rd rc : Reg) (imm : BitVec 12) (s : State) : Result :=
  addressSet rd (Relation.holds .e (addressImmediate imm) (s.lo rc)) s

/-- `A.SET.GE.I` (42_address.md rule R442). -/
def execASetGeI (rd rc : Reg) (imm : BitVec 12) (s : State) : Result :=
  addressSet rd (Relation.holds .ge (addressImmediate imm) (s.lo rc)) s

/-- `A.SET.L.I` (42_address.md rule R443). -/
def execASetLI (rd rc : Reg) (imm : BitVec 12) (s : State) : Result :=
  addressSet rd (Relation.holds .l (addressImmediate imm) (s.lo rc)) s

/-- `A.SET.NE.I` (42_address.md rule R444). -/
def execASetNeI (rd rc : Reg) (imm : BitVec 12) (s : State) : Result :=
  addressSet rd (Relation.holds .ne (addressImmediate imm) (s.lo rc)) s

/-- `A.SET.GE.I.U` (42_address.md rule R445). -/
def execASetGeIU (rd rc : Reg) (imm : BitVec 12) (s : State) : Result :=
  addressSet rd (Relation.holds .geU (addressImmediate imm) (s.lo rc)) s

/-- `A.SET.L.I.U` (42_address.md rule R446). -/
def execASetLIU (rd rc : Reg) (imm : BitVec 12) (s : State) : Result :=
  addressSet rd (Relation.holds .lU (addressImmediate imm) (s.lo rc)) s

/-- `A.SUB.I` (42_address.md rule R447). -/
def execASubI (rd rc : Reg) (imm : BitVec 12) (s : State) : Result :=
  addressWrite rd (addressImmediate imm - s.lo rc) s

/-- `A.SUB.I.O` (42_address.md rule R448). -/
def execASubIO (rd rc : Reg) (imm : BitVec 12) (s : State) : Result :=
  addressChecked rd (subSigned (addressImmediate imm) (s.lo rc)) s

/-- `A.SUB.I.U.O` (42_address.md rule R449). -/
def execASubIUO (rd rc : Reg) (imm : BitVec 12) (s : State) : Result :=
  addressChecked rd (subUnsignedImmediate s.params.uoReading (addressImmediate imm) (s.lo rc)) s

/-- `A.SET.AND.E` (42_address.md rule R451). -/
def execASetAndE (rd rc rb : Reg) (s : State) : Result := addressSet rd (s.compares .andE rb rc) s

/-- `A.SET.AND.NE` (42_address.md rule R452). -/
def execASetAndNe (rd rc rb : Reg) (s : State) : Result := addressSet rd (s.compares .andNE rb rc) s

/-- `A.SET.E` (42_address.md rule R453). -/
def execASetE (rd rc rb : Reg) (s : State) : Result := addressSet rd (s.compares .e rb rc) s

/-- `A.SET.GE` (42_address.md rule R454). -/
def execASetGe (rd rc rb : Reg) (s : State) : Result := addressSet rd (s.compares .ge rb rc) s

/-- `A.SET.GE.U` (42_address.md rule R455). -/
def execASetGeU (rd rc rb : Reg) (s : State) : Result := addressSet rd (s.compares .geU rb rc) s

/-- `A.SET.L` (42_address.md rule R456). -/
def execASetL (rd rc rb : Reg) (s : State) : Result := addressSet rd (s.compares .l rb rc) s

/-- `A.SET.L.U` (42_address.md rule R457). -/
def execASetLU (rd rc rb : Reg) (s : State) : Result := addressSet rd (s.compares .lU rb rc) s

/-- `A.SET.NE` (42_address.md rule R458). -/
def execASetNe (rd rc rb : Reg) (s : State) : Result := addressSet rd (s.compares .ne rb rc) s

/-- `A.SUB` (42_address.md rule R459). -/
def execASub (rd rc rb : Reg) (s : State) : Result := addressWrite rd (s.lo rb - s.lo rc) s

/-- `A.SUB.O` (42_address.md rule R460). -/
def execASubO (rd rc rb : Reg) (s : State) : Result := addressChecked rd (subSigned (s.lo rb) (s.lo rc)) s

/-- `A.SUB.U.O` (42_address.md rule R461). -/
def execASubUO (rd rc rb : Reg) (s : State) : Result := addressChecked rd (subUnsigned (s.lo rb) (s.lo rc)) s

/-- `A.SHL.I.ADD` (42_address.md rule R462). -/
def execAShlIAdd (rd rc rb : Reg) (amount : Nat) (s : State) : Result :=
  addressWrite rd (s.lo rc + s.lo rb <<< amount) s

/-- `A.SHL.I.SUB` (42_address.md rule R463). -/
def execAShlISub (rd rc rb : Reg) (amount : Nat) (s : State) : Result :=
  addressWrite rd (s.lo rb <<< amount - s.lo rc) s

/-- `A.SHL.I` (42_address.md rule R464). -/
def execAShlI (rd rc : Reg) (simm : BitVec 6) (s : State) : Result := addressWrite rd (s.lo rc <<< simm.toNat) s

/-- `A.SHL.I.O` (42_address.md rule R465). -/
def execAShlIO (rd rc : Reg) (simm : BitVec 6) (s : State) : Result :=
  addressChecked rd (shiftSigned (s.lo rc) simm.toNat) s

/-- `A.SHL.I.U.O` (42_address.md rule R466). -/
def execAShlIUO (rd rc : Reg) (simm : BitVec 6) (s : State) : Result :=
  addressChecked rd (shiftUnsigned (s.lo rc) simm.toNat) s

/-- `A.SHR.I` (42_address.md rule R467). -/
def execAShrI (rd rc : Reg) (simm : BitVec 6) (s : State) : Result :=
  addressWrite rd ((s.lo rc).sshiftRight simm.toNat) s

/-- `A.SHR.I.U` (42_address.md rule R468). -/
def execAShrIU (rd rc : Reg) (simm : BitVec 6) (s : State) : Result := addressWrite rd (s.lo rc >>> simm.toNat) s

/-- `A.MUX` (42_address.md rule R469). -/
def execAMux (rd rc rb ra : Reg) (s : State) : Result :=
  addressWrite ra ((s.lo rc &&& s.lo rd) ||| (s.lo rb &&& ~~~s.lo rd)) s

end Sys2Proof.Machine
end

