-- ==== Sys2Proof/Machine/Float.lean ====
section
/-! DEFINITION. The floating-point comparison of the branches: `F`, `fcom` and `fabs` of 43_branch.md rule R505, which are
the parameter `FPCompare` (92_eei_decisions.md D21), and the conditions formed from them.  The default, IEEE 754, is
PRESUMED (notes/assumptions/12.md): the document defines none of them. -/

namespace Sys2Proof

/-- A binary interchange format: a sign bit, `expBits` of exponent, `fracBits` of fraction. -/
structure FpFormat where
  expBits : Nat
  fracBits : Nat
deriving DecidableEq, Repr

/-- binary16 -/
def FpFormat.half : FpFormat := ⟨5, 10⟩

/-- binary32 -/
def FpFormat.single : FpFormat := ⟨8, 23⟩

/-- binary64 -/
def FpFormat.double : FpFormat := ⟨11, 52⟩

/-- binary128 -/
def FpFormat.quad : FpFormat := ⟨15, 112⟩

/-- The size of a number of the format in bits. -/
def FpFormat.size (f : FpFormat) : Nat := 1 + f.expBits + f.fracBits

/-- `F(size, bits)` by IEEE 754: the low `1 + expBits + fracBits` bits decoded, exponent and fraction read as one natural
number. -/
def FpFormat.decode (f : FpFormat) (v : Hexlet) : FpNumber :=
  let fraction := v.extractLsb' 0 f.fracBits
  let exponent := v.extractLsb' f.fracBits f.expBits
  { negative := v.getLsbD (f.expBits + f.fracBits)
    cls :=
      if exponent = BitVec.allOnes f.expBits ∧ fraction ≠ 0#f.fracBits then
        if v.getLsbD (f.fracBits - 1) then .qnan else .snan
      else .number
    magnitude := (exponent ++ fraction).toNat }

/-- `n(q) = (q.t = QNAN) or (q.t = SNAN)` (43_branch.md rule R546). -/
def FpNumber.isNaN (x : FpNumber) : Bool := x.cls != .number

/-- `fabs` by IEEE 754: the sign cleared. -/
def FpNumber.abs (x : FpNumber) : FpNumber := { x with negative := false }

/-- The number as an integer whose order is that of the numbers of one format; +0 and -0 are the same. -/
def FpNumber.key (x : FpNumber) : Int := if x.negative then -(x.magnitude : Int) else x.magnitude

/-- `fcom(a, b)` by IEEE 754. -/
def FpNumber.compare (x y : FpNumber) : FpOrder :=
  if x.isNaN || y.isNaN then .unordered
  else if x.key < y.key then .less
  else if y.key < x.key then .greater
  else .equal

/-- The three functions that `FPCompare` stands for. -/
structure FpFunctions where
  /-- `F(size, bits)` of the format's size -/
  decode : FpFormat → Hexlet → FpNumber
  /-- `fcom(a, b)` -/
  compare : FpNumber → FpNumber → FpOrder
  /-- `fabs(a)` -/
  abs : FpNumber → FpNumber

/-- The functions under each value of the parameter: IEEE 754, or free ones of which only the result sets are known
(43_branch.md rule R505). -/
def FPCompare.functions : FPCompare → FpFunctions
  | .ieee754 => { decode := FpFormat.decode, compare := FpNumber.compare, abs := FpNumber.abs }
  | .abstract =>
    { decode := fun f v => Config.fpDecode f.size (v.setWidth f.size)
      compare := Config.fpCompare
      abs := Config.fpAbs }

/-- The four floating-point conditions: E, GE, L, LG (43_branch.md rules R530, R534, R538 and R542). -/
inductive FpRelation where
  | e
  | ge
  | l
  | lg
deriving DecidableEq, Repr

/-- Whether a condition holds of an outcome of `fcom`. -/
def FpRelation.holds (r : FpRelation) (o : FpOrder) : Bool :=
  match r with
  | .e => o == .equal
  | .ge => o == .greater || o == .equal
  | .l => o == .less
  | .lg => o == .less || o == .greater

/-! ### Visibility (43_branch.md rules R546 to R549) -/

/-- Element `k` (x, y, z, w for 0 to 3) of a register as a single. -/
def FpFunctions.element (fp : FpFunctions) (v : Hexlet) (k : Nat) : FpNumber := fp.decode .single (v >>> (32 * k))

/-- `less(p, q)`. -/
def FpFunctions.isLess (fp : FpFunctions) (p q : FpNumber) : Bool := fp.compare p q == .less

/-- `trxy(p, q, r, t)`. -/
def FpFunctions.trivialSide (fp : FpFunctions) (p q r t : FpNumber) : Bool :=
  fp.compare (fp.abs p) q == .greater && fp.compare (fp.abs r) t == .greater && p.negative == r.negative

/-- Any of the four elements is a NaN. -/
def FpFunctions.anyNaN (fp : FpFunctions) (v : Hexlet) : Bool :=
  (fp.element v 0).isNaN || (fp.element v 1).isNaN || (fp.element v 2).isNaN || (fp.element v 3).isNaN

/-- `dv` and `cv`: the point lies inside the clipping volume. -/
def FpFunctions.pointVisible (fp : FpFunctions) (f1 : FpNumber) (v : Hexlet) : Bool :=
  fp.isLess (fp.abs (fp.element v 0)) (fp.element v 2) && fp.isLess (fp.abs (fp.element v 1)) (fp.element v 2) &&
    fp.isLess (fp.element v 2) f1 && !(fp.element v 2).negative

/-- `tr`: both points lie beyond the same clipping plane. -/
def FpFunctions.triviallyOutside (fp : FpFunctions) (f1 : FpNumber) (d c : Hexlet) : Bool :=
  let trz := (fp.isLess f1 (fp.element d 2) && fp.isLess f1 (fp.element c 2)) ||
    ((fp.element d 2).negative && (fp.element c 2).negative)
  fp.trivialSide (fp.element d 0) (fp.element d 2) (fp.element c 0) (fp.element c 2) ||
    fp.trivialSide (fp.element d 1) (fp.element d 2) (fp.element c 1) (fp.element c 2) || trz

/-- The four visibility conditions. -/
inductive Visibility where
  | invisible
  | notInvisible
  | notVisible
  | visible
deriving DecidableEq, Repr

/-- Whether the branch is taken; never when an element is a NaN. -/
def Visibility.holds (v : Visibility) (fp : FpFunctions) (f1 : FpNumber) (d c : Hexlet) : Bool :=
  if fp.anyNaN d || fp.anyNaN c then false
  else
    match v with
    | .invisible => fp.triviallyOutside f1 d c
    | .notInvisible => !fp.triviallyOutside f1 d c
    | .notVisible => !(fp.pointVisible f1 d && fp.pointVisible f1 c)
    | .visible => fp.pointVisible f1 d && fp.pointVisible f1 c

end Sys2Proof

namespace Sys2Proof.Machine

/-- The functions of the parameter `FPCompare`. -/
def State.fp (s : State) : FpFunctions := s.params.fpCompare.functions

/-- `f1 <- F(32, F1Const)` (43_branch.md rule R546). -/
def State.f1 (s : State) : FpNumber := s.fp.decode .single (s.params.f1Const.setWidth 128)

/-- A floating-point condition on the low bits of `x[rd]` and `x[rc]` (43_branch.md rules R530 to R545). -/
def State.floatCompares (s : State) (r : FpRelation) (f : FpFormat) (rd rc : Reg) : Bool :=
  r.holds (s.fp.compare (s.fp.decode f (s.reg rd)) (s.fp.decode f (s.reg rc)))

/-- A visibility condition on the points in `x[rd]` and `x[rc]` (43_branch.md rules R546 to R549). -/
def State.sees (s : State) (v : Visibility) (rd rc : Reg) : Bool := v.holds s.fp s.f1 (s.reg rd) (s.reg rc)

end Sys2Proof.Machine
end

