-- ==== Sys2Proof/Machine/Branch.lean ====
section
/-! DEFINITION. The 39 branch instructions (43_branch.md). -/

namespace Sys2Proof.Machine

/-- B and B.BARRIER: the field test, then the target test, then the branch to `x[rd]` (43_branch.md rules R510 and
R521). -/
def branchRegister (rd rc rb : Reg) (s : State) (take : Octlet → Result) : Result :=
  if rc ≠ 0 ∨ rb ≠ 0 then s.raiseExn .reservedInstruction
  else if badTarget (s.lo rd) then s.raiseExn .badAddress
  else take (wordTarget (s.lo rd))

/-- A conditional branch: to `pc` plus the scaled offset when taken, else on to `pc + 4` (43_branch.md rule R504). -/
def branchIf (taken : Bool) (offset : BitVec 12) (s : State) : Result :=
  if taken then .next (s.jump (s.branchTarget offset)) else .next s.advance

/-- The end of B.GATE: `x[0][63:0] <- (pc[63:2] + 1) || PrivilegeLevel` with the level of the caller, whose state is `s`,
and the branch to `b[63:2] || 0^2`, in the state `t` of the level granted (43_branch.md rule R560). -/
def enterGateway (rb : Reg) (t s : State) : State :=
  (t.setReg64 0 ((s.pc.extractLsb' 2 62 + 1#62) ++ s.privilegeLevel)).jump (wordTarget (s.lo rb))

/-- `B` (43_branch.md rule R510). -/
def execB (rd rc rb : Reg) (s : State) : Result := branchRegister rd rc rb s fun t => .next (s.jump t)

/-- `B.BACK` (43_branch.md rule R520). -/
def execBBack (rd rc rb : Reg) (s : State) : Result :=
  if rd ≠ 0 ∨ rc ≠ 0 ∨ rb ≠ 0 then s.raiseExn .reservedInstruction else s.returnFromException

/-- `B.BARRIER` (43_branch.md rule R521). -/
def execBBarrier (rd rc rb : Reg) (s : State) : Result :=
  branchRegister rd rc rb s fun t => .next (s.jump t).fetchBarrier

/-- `B.AND.E` (43_branch.md rule R522). -/
def execBAndE (rd rc : Reg) (offset : BitVec 12) (s : State) : Result := branchIf (s.compares .andE rd rc) offset s

/-- `B.AND.NE` (43_branch.md rule R523). -/
def execBAndNe (rd rc : Reg) (offset : BitVec 12) (s : State) : Result := branchIf (s.compares .andNE rd rc) offset s

/-- `B.E` (43_branch.md rule R524). -/
def execBE (rd rc : Reg) (offset : BitVec 12) (s : State) : Result := branchIf (s.compares .e rd rc) offset s

/-- `B.GE` (43_branch.md rule R525). -/
def execBGe (rd rc : Reg) (offset : BitVec 12) (s : State) : Result := branchIf (s.compares .ge rd rc) offset s

/-- `B.L` (43_branch.md rule R526). -/
def execBL (rd rc : Reg) (offset : BitVec 12) (s : State) : Result := branchIf (s.compares .l rd rc) offset s

/-- `B.NE` (43_branch.md rule R527). -/
def execBNe (rd rc : Reg) (offset : BitVec 12) (s : State) : Result := branchIf (s.compares .ne rd rc) offset s

/-- `B.GE.U` (43_branch.md rule R528). -/
def execBGeU (rd rc : Reg) (offset : BitVec 12) (s : State) : Result := branchIf (s.compares .geU rd rc) offset s

/-- `B.L.U` (43_branch.md rule R529). -/
def execBLU (rd rc : Reg) (offset : BitVec 12) (s : State) : Result := branchIf (s.compares .lU rd rc) offset s

/-- `B.E.F.16` (43_branch.md rule R530). -/
def execBEF16 (rd rc : Reg) (offset : BitVec 12) (s : State) : Result :=
  branchIf (s.floatCompares .e .half rd rc) offset s

/-- `B.E.F.32` (43_branch.md rule R531). -/
def execBEF32 (rd rc : Reg) (offset : BitVec 12) (s : State) : Result :=
  branchIf (s.floatCompares .e .single rd rc) offset s

/-- `B.E.F.64` (43_branch.md rule R532). -/
def execBEF64 (rd rc : Reg) (offset : BitVec 12) (s : State) : Result :=
  branchIf (s.floatCompares .e .double rd rc) offset s

/-- `B.E.F.128` (43_branch.md rule R533). -/
def execBEF128 (rd rc : Reg) (offset : BitVec 12) (s : State) : Result :=
  branchIf (s.floatCompares .e .quad rd rc) offset s

/-- `B.GE.F.16` (43_branch.md rule R534). -/
def execBGeF16 (rd rc : Reg) (offset : BitVec 12) (s : State) : Result :=
  branchIf (s.floatCompares .ge .half rd rc) offset s

/-- `B.GE.F.32` (43_branch.md rule R535). -/
def execBGeF32 (rd rc : Reg) (offset : BitVec 12) (s : State) : Result :=
  branchIf (s.floatCompares .ge .single rd rc) offset s

/-- `B.GE.F.64` (43_branch.md rule R536). -/
def execBGeF64 (rd rc : Reg) (offset : BitVec 12) (s : State) : Result :=
  branchIf (s.floatCompares .ge .double rd rc) offset s

/-- `B.GE.F.128` (43_branch.md rule R537). -/
def execBGeF128 (rd rc : Reg) (offset : BitVec 12) (s : State) : Result :=
  branchIf (s.floatCompares .ge .quad rd rc) offset s

/-- `B.L.F.16` (43_branch.md rule R538). -/
def execBLF16 (rd rc : Reg) (offset : BitVec 12) (s : State) : Result :=
  branchIf (s.floatCompares .l .half rd rc) offset s

/-- `B.L.F.32` (43_branch.md rule R539). -/
def execBLF32 (rd rc : Reg) (offset : BitVec 12) (s : State) : Result :=
  branchIf (s.floatCompares .l .single rd rc) offset s

/-- `B.L.F.64` (43_branch.md rule R540). -/
def execBLF64 (rd rc : Reg) (offset : BitVec 12) (s : State) : Result :=
  branchIf (s.floatCompares .l .double rd rc) offset s

/-- `B.L.F.128` (43_branch.md rule R541). -/
def execBLF128 (rd rc : Reg) (offset : BitVec 12) (s : State) : Result :=
  branchIf (s.floatCompares .l .quad rd rc) offset s

/-- `B.LG.F.16` (43_branch.md rule R542). -/
def execBLgF16 (rd rc : Reg) (offset : BitVec 12) (s : State) : Result :=
  branchIf (s.floatCompares .lg .half rd rc) offset s

/-- `B.LG.F.32` (43_branch.md rule R543). -/
def execBLgF32 (rd rc : Reg) (offset : BitVec 12) (s : State) : Result :=
  branchIf (s.floatCompares .lg .single rd rc) offset s

/-- `B.LG.F.64` (43_branch.md rule R544). -/
def execBLgF64 (rd rc : Reg) (offset : BitVec 12) (s : State) : Result :=
  branchIf (s.floatCompares .lg .double rd rc) offset s

/-- `B.LG.F.128` (43_branch.md rule R545). -/
def execBLgF128 (rd rc : Reg) (offset : BitVec 12) (s : State) : Result :=
  branchIf (s.floatCompares .lg .quad rd rc) offset s

/-- `B.I.F.32` (43_branch.md rule R546). -/
def execBIF32 (rd rc : Reg) (offset : BitVec 12) (s : State) : Result := branchIf (s.sees .invisible rd rc) offset s

/-- `B.NI.F.32` (43_branch.md rule R547). -/
def execBNiF32 (rd rc : Reg) (offset : BitVec 12) (s : State) : Result :=
  branchIf (s.sees .notInvisible rd rc) offset s

/-- `B.NV.F.32` (43_branch.md rule R548). -/
def execBNvF32 (rd rc : Reg) (offset : BitVec 12) (s : State) : Result := branchIf (s.sees .notVisible rd rc) offset s

/-- `B.V.F.32` (43_branch.md rule R549). -/
def execBVF32 (rd rc : Reg) (offset : BitVec 12) (s : State) : Result := branchIf (s.sees .visible rd rc) offset s

/-- `B.DOWN` (43_branch.md rule R555). -/
def execBDown (rd rc rb : Reg) (s : State) : Result :=
  if rc ≠ 0 ∨ rb ≠ 0 then s.raiseExn .reservedInstruction
  else .next ((s.lowerPrivilege ((s.lo rd).setWidth 2)).jump (wordTarget (s.lo rd)))

/-- `B.GATE` (43_branch.md rule R560). -/
def execBGate (rd rc rb : Reg) (s : State) : Result :=
  if rd ≠ 0 ∨ rc ≠ 1 then s.raiseExn .reservedInstruction
  else if misaligned (s.lo 1) 64 then s.raiseExn .badAddress
  else if s.privilegeLevel < (s.lo rb).setWidth 2 then
    (s.loadMemory .gateway (s.lo 1) (s.lo 1) 64 .little).andThen s fun m =>
      if s.lo rb ≠ m then s.raiseExn .gatewayDisallowed
      else .next (enterGateway rb (s.setPrivilege ((s.lo rb).setWidth 2)) s)
  else .next (enterGateway rb s s)

/-- `B.HALT` (43_branch.md rule R565). -/
def execBHalt (rd rc rb : Reg) (s : State) : Result :=
  if rd ≠ 0 ∨ rc ≠ 0 ∨ rb ≠ 0 then s.raiseExn .reservedInstruction else .next s.halt

/-- `B.HINT` (43_branch.md rule R568). -/
def execBHint (rd : Reg) (_count _simm : BitVec 6) (s : State) : Result :=
  if badTarget (s.lo rd) then s.raiseExn .badAddress else .next s.advance

/-- `B.HINT.I` (43_branch.md rule R569). -/
def execBHintI (_simm _count : BitVec 6) (_offset : BitVec 12) (s : State) : Result := .next s.advance

/-- `B.I` (43_branch.md rule R574). -/
def execBI (offset : BitVec 24) (s : State) : Result := .next (s.jump (s.branchTarget offset))

/-- `B.LINK.I` (43_branch.md rule R575). -/
def execBLinkI (offset : BitVec 24) (s : State) : Result :=
  .next ((s.setReg64 0 (s.pc + 4#64)).jump (s.branchTarget offset))

/-- `B.LINK` (43_branch.md rule R576). -/
def execBLink (rd rc rb : Reg) (s : State) : Result :=
  if rb ≠ 0 then s.raiseExn .reservedInstruction
  else if badTarget (s.lo rc) then s.raiseExn .badAddress
  else .next ((s.setReg64 rd (s.pc + 4#64)).jump (wordTarget (s.lo rc)))

end Sys2Proof.Machine
end

