-- ==== Sys2Proof/Machine/GroupArith.lean ====
section
/-! DEFINITION. The 59 group instructions of 45_group_arith.md: add and halve, copy immediate, add and subtract in
place, shift and add. -/

namespace Sys2Proof.Machine

/-- `x[rd] <- a`, all 128 bits, then the next instruction (45_group_arith.md rule R700). -/
def groupWrite (rd : Reg) (a : Hexlet) (s : State) : Result := .next (s.setReg rd a).advance

/-- The rounding of G.ADD.H (45_group_arith.md rule R701). -/
inductive Rounding where
  | ceiling
  | floor
  | nearest
  | zero
deriving DecidableEq, Repr

/-- The rounding increment `s`, from the exact sum `p` of `size + 1` bits (45_group_arith.md rule R701). -/
def Rounding.increment {size : Nat} (rnd : Rounding) (p : BitVec (size + 1)) : Bool :=
  match rnd with
  | .ceiling => true
  | .floor => false
  | .nearest => !p.getLsbD 1
  | .zero => p.getLsbD size

/-- One lane of G.ADD.H: `p` the exact sum, `v = p + s` in `size + 2` bits, the result bits `size..1` of `v`
(45_group_arith.md rule R701). -/
def addHalve {size : Nat} (sg : Extension) (rnd : Rounding) (c b : BitVec size) : BitVec size :=
  match sg with
  | .signed =>
    let p : BitVec (size + 1) := c.signExtend (size + 1) + b.signExtend (size + 1)
    (p.signExtend (size + 2) + (BitVec.ofBool (rnd.increment p)).setWidth (size + 2)).extractLsb' 1 size
  | .unsigned =>
    let p : BitVec (size + 1) := c.setWidth (size + 1) + b.setWidth (size + 1)
    (p.setWidth (size + 2) + (BitVec.ofBool (rnd.increment p)).setWidth (size + 2)).extractLsb' 1 size

/-- `G.ADD.H.8.C` (45_group_arith.md rule R710). -/
def execGAddH8C (rd rc rb : Reg) (s : State) : Result :=
  groupWrite rd (ofLanes 8 fun k => addHalve .signed .ceiling (lane 8 (s.reg rc) k) (lane 8 (s.reg rb) k)) s

/-- `G.ADD.H.8.F` (45_group_arith.md rule R711). -/
def execGAddH8F (rd rc rb : Reg) (s : State) : Result :=
  groupWrite rd (ofLanes 8 fun k => addHalve .signed .floor (lane 8 (s.reg rc) k) (lane 8 (s.reg rb) k)) s

/-- `G.ADD.H.8.N` (45_group_arith.md rule R712). -/
def execGAddH8N (rd rc rb : Reg) (s : State) : Result :=
  groupWrite rd (ofLanes 8 fun k => addHalve .signed .nearest (lane 8 (s.reg rc) k) (lane 8 (s.reg rb) k)) s

/-- `G.ADD.H.8.Z` (45_group_arith.md rule R713). -/
def execGAddH8Z (rd rc rb : Reg) (s : State) : Result :=
  groupWrite rd (ofLanes 8 fun k => addHalve .signed .zero (lane 8 (s.reg rc) k) (lane 8 (s.reg rb) k)) s

/-- `G.ADD.H.16.C` (45_group_arith.md rule R714). -/
def execGAddH16C (rd rc rb : Reg) (s : State) : Result :=
  groupWrite rd (ofLanes 16 fun k => addHalve .signed .ceiling (lane 16 (s.reg rc) k) (lane 16 (s.reg rb) k)) s

/-- `G.ADD.H.16.F` (45_group_arith.md rule R715). -/
def execGAddH16F (rd rc rb : Reg) (s : State) : Result :=
  groupWrite rd (ofLanes 16 fun k => addHalve .signed .floor (lane 16 (s.reg rc) k) (lane 16 (s.reg rb) k)) s

/-- `G.ADD.H.16.N` (45_group_arith.md rule R716). -/
def execGAddH16N (rd rc rb : Reg) (s : State) : Result :=
  groupWrite rd (ofLanes 16 fun k => addHalve .signed .nearest (lane 16 (s.reg rc) k) (lane 16 (s.reg rb) k)) s

/-- `G.ADD.H.16.Z` (45_group_arith.md rule R717). -/
def execGAddH16Z (rd rc rb : Reg) (s : State) : Result :=
  groupWrite rd (ofLanes 16 fun k => addHalve .signed .zero (lane 16 (s.reg rc) k) (lane 16 (s.reg rb) k)) s

/-- `G.ADD.H.32.C` (45_group_arith.md rule R718). -/
def execGAddH32C (rd rc rb : Reg) (s : State) : Result :=
  groupWrite rd (ofLanes 32 fun k => addHalve .signed .ceiling (lane 32 (s.reg rc) k) (lane 32 (s.reg rb) k)) s

/-- `G.ADD.H.32.F` (45_group_arith.md rule R719). -/
def execGAddH32F (rd rc rb : Reg) (s : State) : Result :=
  groupWrite rd (ofLanes 32 fun k => addHalve .signed .floor (lane 32 (s.reg rc) k) (lane 32 (s.reg rb) k)) s

/-- `G.ADD.H.32.N` (45_group_arith.md rule R720). -/
def execGAddH32N (rd rc rb : Reg) (s : State) : Result :=
  groupWrite rd (ofLanes 32 fun k => addHalve .signed .nearest (lane 32 (s.reg rc) k) (lane 32 (s.reg rb) k)) s

/-- `G.ADD.H.32.Z` (45_group_arith.md rule R721). -/
def execGAddH32Z (rd rc rb : Reg) (s : State) : Result :=
  groupWrite rd (ofLanes 32 fun k => addHalve .signed .zero (lane 32 (s.reg rc) k) (lane 32 (s.reg rb) k)) s

/-- `G.ADD.H.64.C` (45_group_arith.md rule R722). -/
def execGAddH64C (rd rc rb : Reg) (s : State) : Result :=
  groupWrite rd (ofLanes 64 fun k => addHalve .signed .ceiling (lane 64 (s.reg rc) k) (lane 64 (s.reg rb) k)) s

/-- `G.ADD.H.64.F` (45_group_arith.md rule R723). -/
def execGAddH64F (rd rc rb : Reg) (s : State) : Result :=
  groupWrite rd (ofLanes 64 fun k => addHalve .signed .floor (lane 64 (s.reg rc) k) (lane 64 (s.reg rb) k)) s

/-- `G.ADD.H.64.N` (45_group_arith.md rule R724). -/
def execGAddH64N (rd rc rb : Reg) (s : State) : Result :=
  groupWrite rd (ofLanes 64 fun k => addHalve .signed .nearest (lane 64 (s.reg rc) k) (lane 64 (s.reg rb) k)) s

/-- `G.ADD.H.64.Z` (45_group_arith.md rule R725). -/
def execGAddH64Z (rd rc rb : Reg) (s : State) : Result :=
  groupWrite rd (ofLanes 64 fun k => addHalve .signed .zero (lane 64 (s.reg rc) k) (lane 64 (s.reg rb) k)) s

/-- `G.ADD.H.128.C` (45_group_arith.md rule R726). -/
def execGAddH128C (rd rc rb : Reg) (s : State) : Result :=
  groupWrite rd (ofLanes 128 fun k => addHalve .signed .ceiling (lane 128 (s.reg rc) k) (lane 128 (s.reg rb) k)) s

/-- `G.ADD.H.128.F` (45_group_arith.md rule R727). -/
def execGAddH128F (rd rc rb : Reg) (s : State) : Result :=
  groupWrite rd (ofLanes 128 fun k => addHalve .signed .floor (lane 128 (s.reg rc) k) (lane 128 (s.reg rb) k)) s

/-- `G.ADD.H.128.N` (45_group_arith.md rule R728). -/
def execGAddH128N (rd rc rb : Reg) (s : State) : Result :=
  groupWrite rd (ofLanes 128 fun k => addHalve .signed .nearest (lane 128 (s.reg rc) k) (lane 128 (s.reg rb) k)) s

/-- `G.ADD.H.128.Z` (45_group_arith.md rule R729). -/
def execGAddH128Z (rd rc rb : Reg) (s : State) : Result :=
  groupWrite rd (ofLanes 128 fun k => addHalve .signed .zero (lane 128 (s.reg rc) k) (lane 128 (s.reg rb) k)) s

/-- `G.ADD.H.U.8.C` (45_group_arith.md rule R730). -/
def execGAddHU8C (rd rc rb : Reg) (s : State) : Result :=
  groupWrite rd (ofLanes 8 fun k => addHalve .unsigned .ceiling (lane 8 (s.reg rc) k) (lane 8 (s.reg rb) k)) s

/-- `G.ADD.H.U.8.F` (45_group_arith.md rule R731). -/
def execGAddHU8F (rd rc rb : Reg) (s : State) : Result :=
  groupWrite rd (ofLanes 8 fun k => addHalve .unsigned .floor (lane 8 (s.reg rc) k) (lane 8 (s.reg rb) k)) s

/-- `G.ADD.H.U.8.N` (45_group_arith.md rule R732). -/
def execGAddHU8N (rd rc rb : Reg) (s : State) : Result :=
  groupWrite rd (ofLanes 8 fun k => addHalve .unsigned .nearest (lane 8 (s.reg rc) k) (lane 8 (s.reg rb) k)) s

/-- `G.ADD.H.U.16.C` (45_group_arith.md rule R733). -/
def execGAddHU16C (rd rc rb : Reg) (s : State) : Result :=
  groupWrite rd (ofLanes 16 fun k => addHalve .unsigned .ceiling (lane 16 (s.reg rc) k) (lane 16 (s.reg rb) k)) s

/-- `G.ADD.H.U.16.F` (45_group_arith.md rule R734). -/
def execGAddHU16F (rd rc rb : Reg) (s : State) : Result :=
  groupWrite rd (ofLanes 16 fun k => addHalve .unsigned .floor (lane 16 (s.reg rc) k) (lane 16 (s.reg rb) k)) s

/-- `G.ADD.H.U.16.N` (45_group_arith.md rule R735). -/
def execGAddHU16N (rd rc rb : Reg) (s : State) : Result :=
  groupWrite rd (ofLanes 16 fun k => addHalve .unsigned .nearest (lane 16 (s.reg rc) k) (lane 16 (s.reg rb) k)) s

/-- `G.ADD.H.U.32.C` (45_group_arith.md rule R736). -/
def execGAddHU32C (rd rc rb : Reg) (s : State) : Result :=
  groupWrite rd (ofLanes 32 fun k => addHalve .unsigned .ceiling (lane 32 (s.reg rc) k) (lane 32 (s.reg rb) k)) s

/-- `G.ADD.H.U.32.F` (45_group_arith.md rule R737). -/
def execGAddHU32F (rd rc rb : Reg) (s : State) : Result :=
  groupWrite rd (ofLanes 32 fun k => addHalve .unsigned .floor (lane 32 (s.reg rc) k) (lane 32 (s.reg rb) k)) s

/-- `G.ADD.H.U.32.N` (45_group_arith.md rule R738). -/
def execGAddHU32N (rd rc rb : Reg) (s : State) : Result :=
  groupWrite rd (ofLanes 32 fun k => addHalve .unsigned .nearest (lane 32 (s.reg rc) k) (lane 32 (s.reg rb) k)) s

/-- `G.ADD.H.U.64.C` (45_group_arith.md rule R739). -/
def execGAddHU64C (rd rc rb : Reg) (s : State) : Result :=
  groupWrite rd (ofLanes 64 fun k => addHalve .unsigned .ceiling (lane 64 (s.reg rc) k) (lane 64 (s.reg rb) k)) s

/-- `G.ADD.H.U.64.F` (45_group_arith.md rule R740). -/
def execGAddHU64F (rd rc rb : Reg) (s : State) : Result :=
  groupWrite rd (ofLanes 64 fun k => addHalve .unsigned .floor (lane 64 (s.reg rc) k) (lane 64 (s.reg rb) k)) s

/-- `G.ADD.H.U.64.N` (45_group_arith.md rule R741). -/
def execGAddHU64N (rd rc rb : Reg) (s : State) : Result :=
  groupWrite rd (ofLanes 64 fun k => addHalve .unsigned .nearest (lane 64 (s.reg rc) k) (lane 64 (s.reg rb) k)) s

/-- `G.ADD.H.U.128.C` (45_group_arith.md rule R742). -/
def execGAddHU128C (rd rc rb : Reg) (s : State) : Result :=
  groupWrite rd (ofLanes 128 fun k => addHalve .unsigned .ceiling (lane 128 (s.reg rc) k) (lane 128 (s.reg rb) k)) s

/-- `G.ADD.H.U.128.F` (45_group_arith.md rule R743). -/
def execGAddHU128F (rd rc rb : Reg) (s : State) : Result :=
  groupWrite rd (ofLanes 128 fun k => addHalve .unsigned .floor (lane 128 (s.reg rc) k) (lane 128 (s.reg rb) k)) s

/-- `G.ADD.H.U.128.N` (45_group_arith.md rule R744). -/
def execGAddHU128N (rd rc rb : Reg) (s : State) : Result :=
  groupWrite rd (ofLanes 128 fun k => addHalve .unsigned .nearest (lane 128 (s.reg rc) k) (lane 128 (s.reg rb) k)) s

/-- `G.COPY.I.16` (45_group_arith.md rule R750). -/
def execGCopyI16 (sign : BitVec 1) (rd : Reg) (imm : BitVec 16) (s : State) : Result :=
  if sign = 1 then s.raiseExn .reservedInstruction else groupWrite rd (ofLanes 16 fun _ => copyLane 16 sign imm) s

/-- `G.COPY.I.32` (45_group_arith.md rule R751). -/
def execGCopyI32 (sign : BitVec 1) (rd : Reg) (imm : BitVec 16) (s : State) : Result :=
  groupWrite rd (ofLanes 32 fun _ => copyLane 32 sign imm) s

/-- `G.COPY.I.64` (45_group_arith.md rule R752). -/
def execGCopyI64 (sign : BitVec 1) (rd : Reg) (imm : BitVec 16) (s : State) : Result :=
  groupWrite rd (ofLanes 64 fun _ => copyLane 64 sign imm) s

/-- `G.COPY.I.128` (45_group_arith.md rule R753). -/
def execGCopyI128 (sign : BitVec 1) (rd : Reg) (imm : BitVec 16) (s : State) : Result :=
  groupWrite rd (ofLanes 128 fun _ => copyLane 128 sign imm) s

/-- `G.AAA.8` (45_group_arith.md rule R761). -/
def execGAaa8 (rd rc rb : Reg) (s : State) : Result :=
  groupWrite rd (ofLanes 8 fun k => lane 8 (s.reg rd) k + lane 8 (s.reg rc) k + lane 8 (s.reg rb) k) s

/-- `G.AAA.16` (45_group_arith.md rule R762). -/
def execGAaa16 (rd rc rb : Reg) (s : State) : Result :=
  groupWrite rd (ofLanes 16 fun k => lane 16 (s.reg rd) k + lane 16 (s.reg rc) k + lane 16 (s.reg rb) k) s

/-- `G.AAA.32` (45_group_arith.md rule R763). -/
def execGAaa32 (rd rc rb : Reg) (s : State) : Result :=
  groupWrite rd (ofLanes 32 fun k => lane 32 (s.reg rd) k + lane 32 (s.reg rc) k + lane 32 (s.reg rb) k) s

/-- `G.AAA.64` (45_group_arith.md rule R764). -/
def execGAaa64 (rd rc rb : Reg) (s : State) : Result :=
  groupWrite rd (ofLanes 64 fun k => lane 64 (s.reg rd) k + lane 64 (s.reg rc) k + lane 64 (s.reg rb) k) s

/-- `G.AAA.128` (45_group_arith.md rule R765). -/
def execGAaa128 (rd rc rb : Reg) (s : State) : Result :=
  groupWrite rd (ofLanes 128 fun k => lane 128 (s.reg rd) k + lane 128 (s.reg rc) k + lane 128 (s.reg rb) k) s

/-- `G.ASA.8` (45_group_arith.md rule R766). -/
def execGAsa8 (rd rc rb : Reg) (s : State) : Result :=
  groupWrite rd (ofLanes 8 fun k => lane 8 (s.reg rd) k - lane 8 (s.reg rc) k + lane 8 (s.reg rb) k) s

/-- `G.ASA.16` (45_group_arith.md rule R767). -/
def execGAsa16 (rd rc rb : Reg) (s : State) : Result :=
  groupWrite rd (ofLanes 16 fun k => lane 16 (s.reg rd) k - lane 16 (s.reg rc) k + lane 16 (s.reg rb) k) s

/-- `G.ASA.32` (45_group_arith.md rule R768). -/
def execGAsa32 (rd rc rb : Reg) (s : State) : Result :=
  groupWrite rd (ofLanes 32 fun k => lane 32 (s.reg rd) k - lane 32 (s.reg rc) k + lane 32 (s.reg rb) k) s

/-- `G.ASA.64` (45_group_arith.md rule R769). -/
def execGAsa64 (rd rc rb : Reg) (s : State) : Result :=
  groupWrite rd (ofLanes 64 fun k => lane 64 (s.reg rd) k - lane 64 (s.reg rc) k + lane 64 (s.reg rb) k) s

/-- `G.ASA.128` (45_group_arith.md rule R770). -/
def execGAsa128 (rd rc rb : Reg) (s : State) : Result :=
  groupWrite rd (ofLanes 128 fun k => lane 128 (s.reg rd) k - lane 128 (s.reg rc) k + lane 128 (s.reg rb) k) s

/-- `G.SHL.I.ADD.8` (45_group_arith.md rule R776). -/
def execGShlIAdd8 (rd rc rb : Reg) (amount : Nat) (s : State) : Result :=
  groupWrite rd (ofLanes 8 fun k => lane 8 (s.reg rc) k + lane 8 (s.reg rb) k <<< amount) s

/-- `G.SHL.I.ADD.16` (45_group_arith.md rule R777). -/
def execGShlIAdd16 (rd rc rb : Reg) (amount : Nat) (s : State) : Result :=
  groupWrite rd (ofLanes 16 fun k => lane 16 (s.reg rc) k + lane 16 (s.reg rb) k <<< amount) s

/-- `G.SHL.I.ADD.32` (45_group_arith.md rule R778). -/
def execGShlIAdd32 (rd rc rb : Reg) (amount : Nat) (s : State) : Result :=
  groupWrite rd (ofLanes 32 fun k => lane 32 (s.reg rc) k + lane 32 (s.reg rb) k <<< amount) s

/-- `G.SHL.I.ADD.64` (45_group_arith.md rule R779). -/
def execGShlIAdd64 (rd rc rb : Reg) (amount : Nat) (s : State) : Result :=
  groupWrite rd (ofLanes 64 fun k => lane 64 (s.reg rc) k + lane 64 (s.reg rb) k <<< amount) s

/-- `G.SHL.I.ADD.128` (45_group_arith.md rule R780). -/
def execGShlIAdd128 (rd rc rb : Reg) (amount : Nat) (s : State) : Result :=
  groupWrite rd (ofLanes 128 fun k => lane 128 (s.reg rc) k + lane 128 (s.reg rb) k <<< amount) s

/-- `G.SHL.I.SUB.8` (45_group_arith.md rule R786). -/
def execGShlISub8 (rd rc rb : Reg) (amount : Nat) (s : State) : Result :=
  groupWrite rd (ofLanes 8 fun k => lane 8 (s.reg rb) k <<< amount - lane 8 (s.reg rc) k) s

/-- `G.SHL.I.SUB.16` (45_group_arith.md rule R787). -/
def execGShlISub16 (rd rc rb : Reg) (amount : Nat) (s : State) : Result :=
  groupWrite rd (ofLanes 16 fun k => lane 16 (s.reg rb) k <<< amount - lane 16 (s.reg rc) k) s

/-- `G.SHL.I.SUB.32` (45_group_arith.md rule R788). -/
def execGShlISub32 (rd rc rb : Reg) (amount : Nat) (s : State) : Result :=
  groupWrite rd (ofLanes 32 fun k => lane 32 (s.reg rb) k <<< amount - lane 32 (s.reg rc) k) s

/-- `G.SHL.I.SUB.64` (45_group_arith.md rule R789). -/
def execGShlISub64 (rd rc rb : Reg) (amount : Nat) (s : State) : Result :=
  groupWrite rd (ofLanes 64 fun k => lane 64 (s.reg rb) k <<< amount - lane 64 (s.reg rc) k) s

/-- `G.SHL.I.SUB.128` (45_group_arith.md rule R790). -/
def execGShlISub128 (rd rc rb : Reg) (amount : Nat) (s : State) : Result :=
  groupWrite rd (ofLanes 128 fun k => lane 128 (s.reg rb) k <<< amount - lane 128 (s.reg rc) k) s

end Sys2Proof.Machine
end

