-- ==== Sys2Proof/Machine/GroupImmediate.lean ====
section
/-! DEFINITION. The 76 group immediate instructions (46_group_immediate.md).  In the reversed forms, G.SET and G.SUB, the
immediate lane is the left operand (46_group_immediate.md rule R804). -/

namespace Sys2Proof.Machine

/-- A checked group form: "Fixed-point arithmetic" if any lane overflows, and then nothing is written
(46_group_immediate.md rule R803). -/
def groupChecked (rd : Reg) (a : Option Hexlet) (s : State) : Result :=
  match a with
  | none => s.raiseExn .fixedPointArithmetic
  | some a => groupWrite rd a s

/-- `G.ADD.I.16` (46_group_immediate.md rule R810). -/
def execGAddI16 (rd rc : Reg) (imm : BitVec 10) (s : State) : Result :=
  groupWrite rd (ofLanes 16 fun k => lane 16 (s.reg rc) k + laneImmediate 16 imm) s

/-- `G.ADD.I.16.O` (46_group_immediate.md rule R811). -/
def execGAddI16O (rd rc : Reg) (imm : BitVec 10) (s : State) : Result :=
  groupChecked rd (ofCheckedLanes 16 fun k => addSigned (lane 16 (s.reg rc) k) (laneImmediate 16 imm)) s

/-- `G.ADD.I.32` (46_group_immediate.md rule R812). -/
def execGAddI32 (rd rc : Reg) (imm : BitVec 10) (s : State) : Result :=
  groupWrite rd (ofLanes 32 fun k => lane 32 (s.reg rc) k + laneImmediate 32 imm) s

/-- `G.ADD.I.32.O` (46_group_immediate.md rule R813). -/
def execGAddI32O (rd rc : Reg) (imm : BitVec 10) (s : State) : Result :=
  groupChecked rd (ofCheckedLanes 32 fun k => addSigned (lane 32 (s.reg rc) k) (laneImmediate 32 imm)) s

/-- `G.ADD.I.64` (46_group_immediate.md rule R814). -/
def execGAddI64 (rd rc : Reg) (imm : BitVec 10) (s : State) : Result :=
  groupWrite rd (ofLanes 64 fun k => lane 64 (s.reg rc) k + laneImmediate 64 imm) s

/-- `G.ADD.I.64.O` (46_group_immediate.md rule R815). -/
def execGAddI64O (rd rc : Reg) (imm : BitVec 10) (s : State) : Result :=
  groupChecked rd (ofCheckedLanes 64 fun k => addSigned (lane 64 (s.reg rc) k) (laneImmediate 64 imm)) s

/-- `G.ADD.I.128` (46_group_immediate.md rule R816). -/
def execGAddI128 (rd rc : Reg) (imm : BitVec 10) (s : State) : Result :=
  groupWrite rd (ofLanes 128 fun k => lane 128 (s.reg rc) k + laneImmediate 128 imm) s

/-- `G.ADD.I.128.O` (46_group_immediate.md rule R817). -/
def execGAddI128O (rd rc : Reg) (imm : BitVec 10) (s : State) : Result :=
  groupChecked rd (ofCheckedLanes 128 fun k => addSigned (lane 128 (s.reg rc) k) (laneImmediate 128 imm)) s

/-- `G.ADD.I.U.16.O` (46_group_immediate.md rule R818). -/
def execGAddIU16O (rd rc : Reg) (imm : BitVec 10) (s : State) : Result :=
  groupChecked rd (ofCheckedLanes 16 fun k => addUnsigned (lane 16 (s.reg rc) k) (laneImmediate 16 imm)) s

/-- `G.ADD.I.U.32.O` (46_group_immediate.md rule R819). -/
def execGAddIU32O (rd rc : Reg) (imm : BitVec 10) (s : State) : Result :=
  groupChecked rd (ofCheckedLanes 32 fun k => addUnsigned (lane 32 (s.reg rc) k) (laneImmediate 32 imm)) s

/-- `G.ADD.I.U.64.O` (46_group_immediate.md rule R820). -/
def execGAddIU64O (rd rc : Reg) (imm : BitVec 10) (s : State) : Result :=
  groupChecked rd (ofCheckedLanes 64 fun k => addUnsigned (lane 64 (s.reg rc) k) (laneImmediate 64 imm)) s

/-- `G.ADD.I.U.128.O` (46_group_immediate.md rule R821). -/
def execGAddIU128O (rd rc : Reg) (imm : BitVec 10) (s : State) : Result :=
  groupChecked rd (ofCheckedLanes 128 fun k => addUnsigned (lane 128 (s.reg rc) k) (laneImmediate 128 imm)) s

/-- `G.AND.I.16` (46_group_immediate.md rule R822). -/
def execGAndI16 (rd rc : Reg) (imm : BitVec 10) (s : State) : Result :=
  groupWrite rd (ofLanes 16 fun k => lane 16 (s.reg rc) k &&& laneImmediate 16 imm) s

/-- `G.AND.I.32` (46_group_immediate.md rule R823). -/
def execGAndI32 (rd rc : Reg) (imm : BitVec 10) (s : State) : Result :=
  groupWrite rd (ofLanes 32 fun k => lane 32 (s.reg rc) k &&& laneImmediate 32 imm) s

/-- `G.AND.I.64` (46_group_immediate.md rule R824). -/
def execGAndI64 (rd rc : Reg) (imm : BitVec 10) (s : State) : Result :=
  groupWrite rd (ofLanes 64 fun k => lane 64 (s.reg rc) k &&& laneImmediate 64 imm) s

/-- `G.AND.I.128` (46_group_immediate.md rule R825). -/
def execGAndI128 (rd rc : Reg) (imm : BitVec 10) (s : State) : Result :=
  groupWrite rd (ofLanes 128 fun k => lane 128 (s.reg rc) k &&& laneImmediate 128 imm) s

/-- `G.NAND.I.16` (46_group_immediate.md rule R826). -/
def execGNandI16 (rd rc : Reg) (imm : BitVec 10) (s : State) : Result :=
  groupWrite rd (ofLanes 16 fun k => ~~~(lane 16 (s.reg rc) k &&& laneImmediate 16 imm)) s

/-- `G.NAND.I.32` (46_group_immediate.md rule R827). -/
def execGNandI32 (rd rc : Reg) (imm : BitVec 10) (s : State) : Result :=
  groupWrite rd (ofLanes 32 fun k => ~~~(lane 32 (s.reg rc) k &&& laneImmediate 32 imm)) s

/-- `G.NAND.I.64` (46_group_immediate.md rule R828). -/
def execGNandI64 (rd rc : Reg) (imm : BitVec 10) (s : State) : Result :=
  groupWrite rd (ofLanes 64 fun k => ~~~(lane 64 (s.reg rc) k &&& laneImmediate 64 imm)) s

/-- `G.NAND.I.128` (46_group_immediate.md rule R829). -/
def execGNandI128 (rd rc : Reg) (imm : BitVec 10) (s : State) : Result :=
  groupWrite rd (ofLanes 128 fun k => ~~~(lane 128 (s.reg rc) k &&& laneImmediate 128 imm)) s

/-- `G.NOR.I.16` (46_group_immediate.md rule R830). -/
def execGNorI16 (rd rc : Reg) (imm : BitVec 10) (s : State) : Result :=
  groupWrite rd (ofLanes 16 fun k => ~~~(lane 16 (s.reg rc) k ||| laneImmediate 16 imm)) s

/-- `G.NOR.I.32` (46_group_immediate.md rule R831). -/
def execGNorI32 (rd rc : Reg) (imm : BitVec 10) (s : State) : Result :=
  groupWrite rd (ofLanes 32 fun k => ~~~(lane 32 (s.reg rc) k ||| laneImmediate 32 imm)) s

/-- `G.NOR.I.64` (46_group_immediate.md rule R832). -/
def execGNorI64 (rd rc : Reg) (imm : BitVec 10) (s : State) : Result :=
  groupWrite rd (ofLanes 64 fun k => ~~~(lane 64 (s.reg rc) k ||| laneImmediate 64 imm)) s

/-- `G.NOR.I.128` (46_group_immediate.md rule R833). -/
def execGNorI128 (rd rc : Reg) (imm : BitVec 10) (s : State) : Result :=
  groupWrite rd (ofLanes 128 fun k => ~~~(lane 128 (s.reg rc) k ||| laneImmediate 128 imm)) s

/-- `G.OR.I.16` (46_group_immediate.md rule R834). -/
def execGOrI16 (rd rc : Reg) (imm : BitVec 10) (s : State) : Result :=
  groupWrite rd (ofLanes 16 fun k => lane 16 (s.reg rc) k ||| laneImmediate 16 imm) s

/-- `G.OR.I.32` (46_group_immediate.md rule R835). -/
def execGOrI32 (rd rc : Reg) (imm : BitVec 10) (s : State) : Result :=
  groupWrite rd (ofLanes 32 fun k => lane 32 (s.reg rc) k ||| laneImmediate 32 imm) s

/-- `G.OR.I.64` (46_group_immediate.md rule R836). -/
def execGOrI64 (rd rc : Reg) (imm : BitVec 10) (s : State) : Result :=
  groupWrite rd (ofLanes 64 fun k => lane 64 (s.reg rc) k ||| laneImmediate 64 imm) s

/-- `G.OR.I.128` (46_group_immediate.md rule R837). -/
def execGOrI128 (rd rc : Reg) (imm : BitVec 10) (s : State) : Result :=
  groupWrite rd (ofLanes 128 fun k => lane 128 (s.reg rc) k ||| laneImmediate 128 imm) s

/-- `G.XOR.I.16` (46_group_immediate.md rule R838). -/
def execGXorI16 (rd rc : Reg) (imm : BitVec 10) (s : State) : Result :=
  groupWrite rd (ofLanes 16 fun k => lane 16 (s.reg rc) k ^^^ laneImmediate 16 imm) s

/-- `G.XOR.I.32` (46_group_immediate.md rule R839). -/
def execGXorI32 (rd rc : Reg) (imm : BitVec 10) (s : State) : Result :=
  groupWrite rd (ofLanes 32 fun k => lane 32 (s.reg rc) k ^^^ laneImmediate 32 imm) s

/-- `G.XOR.I.64` (46_group_immediate.md rule R840). -/
def execGXorI64 (rd rc : Reg) (imm : BitVec 10) (s : State) : Result :=
  groupWrite rd (ofLanes 64 fun k => lane 64 (s.reg rc) k ^^^ laneImmediate 64 imm) s

/-- `G.XOR.I.128` (46_group_immediate.md rule R841). -/
def execGXorI128 (rd rc : Reg) (imm : BitVec 10) (s : State) : Result :=
  groupWrite rd (ofLanes 128 fun k => lane 128 (s.reg rc) k ^^^ laneImmediate 128 imm) s

/-- `G.SET.AND.E.I.16` (46_group_immediate.md rule R850). -/
def execGSetAndEI16 (rd rc : Reg) (imm : BitVec 10) (s : State) : Result :=
  groupWrite rd (ofLanes 16 fun k => maskOf 16 (Relation.holds .andE (laneImmediate 16 imm) (lane 16 (s.reg rc) k))) s

/-- `G.SET.AND.E.I.32` (46_group_immediate.md rule R851). -/
def execGSetAndEI32 (rd rc : Reg) (imm : BitVec 10) (s : State) : Result :=
  groupWrite rd (ofLanes 32 fun k => maskOf 32 (Relation.holds .andE (laneImmediate 32 imm) (lane 32 (s.reg rc) k))) s

/-- `G.SET.AND.E.I.64` (46_group_immediate.md rule R852). -/
def execGSetAndEI64 (rd rc : Reg) (imm : BitVec 10) (s : State) : Result :=
  groupWrite rd (ofLanes 64 fun k => maskOf 64 (Relation.holds .andE (laneImmediate 64 imm) (lane 64 (s.reg rc) k))) s

/-- `G.SET.AND.E.I.128` (46_group_immediate.md rule R853). -/
def execGSetAndEI128 (rd rc : Reg) (imm : BitVec 10) (s : State) : Result :=
  groupWrite rd (ofLanes 128 fun k => maskOf 128 (Relation.holds .andE (laneImmediate 128 imm) (lane 128 (s.reg rc) k))) s

/-- `G.SET.AND.NE.I.16` (46_group_immediate.md rule R854). -/
def execGSetAndNeI16 (rd rc : Reg) (imm : BitVec 10) (s : State) : Result :=
  groupWrite rd (ofLanes 16 fun k => maskOf 16 (Relation.holds .andNE (laneImmediate 16 imm) (lane 16 (s.reg rc) k))) s

/-- `G.SET.AND.NE.I.32` (46_group_immediate.md rule R855). -/
def execGSetAndNeI32 (rd rc : Reg) (imm : BitVec 10) (s : State) : Result :=
  groupWrite rd (ofLanes 32 fun k => maskOf 32 (Relation.holds .andNE (laneImmediate 32 imm) (lane 32 (s.reg rc) k))) s

/-- `G.SET.AND.NE.I.64` (46_group_immediate.md rule R856). -/
def execGSetAndNeI64 (rd rc : Reg) (imm : BitVec 10) (s : State) : Result :=
  groupWrite rd (ofLanes 64 fun k => maskOf 64 (Relation.holds .andNE (laneImmediate 64 imm) (lane 64 (s.reg rc) k))) s

/-- `G.SET.AND.NE.I.128` (46_group_immediate.md rule R857). -/
def execGSetAndNeI128 (rd rc : Reg) (imm : BitVec 10) (s : State) : Result :=
  groupWrite rd (ofLanes 128 fun k => maskOf 128 (Relation.holds .andNE (laneImmediate 128 imm) (lane 128 (s.reg rc) k))) s

/-- `G.SET.E.I.16` (46_group_immediate.md rule R858). -/
def execGSetEI16 (rd rc : Reg) (imm : BitVec 10) (s : State) : Result :=
  groupWrite rd (ofLanes 16 fun k => maskOf 16 (Relation.holds .e (laneImmediate 16 imm) (lane 16 (s.reg rc) k))) s

/-- `G.SET.E.I.32` (46_group_immediate.md rule R859). -/
def execGSetEI32 (rd rc : Reg) (imm : BitVec 10) (s : State) : Result :=
  groupWrite rd (ofLanes 32 fun k => maskOf 32 (Relation.holds .e (laneImmediate 32 imm) (lane 32 (s.reg rc) k))) s

/-- `G.SET.E.I.64` (46_group_immediate.md rule R860). -/
def execGSetEI64 (rd rc : Reg) (imm : BitVec 10) (s : State) : Result :=
  groupWrite rd (ofLanes 64 fun k => maskOf 64 (Relation.holds .e (laneImmediate 64 imm) (lane 64 (s.reg rc) k))) s

/-- `G.SET.E.I.128` (46_group_immediate.md rule R861). -/
def execGSetEI128 (rd rc : Reg) (imm : BitVec 10) (s : State) : Result :=
  groupWrite rd (ofLanes 128 fun k => maskOf 128 (Relation.holds .e (laneImmediate 128 imm) (lane 128 (s.reg rc) k))) s

/-- `G.SET.GE.I.16` (46_group_immediate.md rule R862). -/
def execGSetGeI16 (rd rc : Reg) (imm : BitVec 10) (s : State) : Result :=
  groupWrite rd (ofLanes 16 fun k => maskOf 16 (Relation.holds .ge (laneImmediate 16 imm) (lane 16 (s.reg rc) k))) s

/-- `G.SET.GE.I.32` (46_group_immediate.md rule R863). -/
def execGSetGeI32 (rd rc : Reg) (imm : BitVec 10) (s : State) : Result :=
  groupWrite rd (ofLanes 32 fun k => maskOf 32 (Relation.holds .ge (laneImmediate 32 imm) (lane 32 (s.reg rc) k))) s

/-- `G.SET.GE.I.64` (46_group_immediate.md rule R864). -/
def execGSetGeI64 (rd rc : Reg) (imm : BitVec 10) (s : State) : Result :=
  groupWrite rd (ofLanes 64 fun k => maskOf 64 (Relation.holds .ge (laneImmediate 64 imm) (lane 64 (s.reg rc) k))) s

/-- `G.SET.GE.I.128` (46_group_immediate.md rule R865). -/
def execGSetGeI128 (rd rc : Reg) (imm : BitVec 10) (s : State) : Result :=
  groupWrite rd (ofLanes 128 fun k => maskOf 128 (Relation.holds .ge (laneImmediate 128 imm) (lane 128 (s.reg rc) k))) s

/-- `G.SET.GE.I.U.16` (46_group_immediate.md rule R866). -/
def execGSetGeIU16 (rd rc : Reg) (imm : BitVec 10) (s : State) : Result :=
  groupWrite rd (ofLanes 16 fun k => maskOf 16 (Relation.holds .geU (laneImmediate 16 imm) (lane 16 (s.reg rc) k))) s

/-- `G.SET.GE.I.U.32` (46_group_immediate.md rule R867). -/
def execGSetGeIU32 (rd rc : Reg) (imm : BitVec 10) (s : State) : Result :=
  groupWrite rd (ofLanes 32 fun k => maskOf 32 (Relation.holds .geU (laneImmediate 32 imm) (lane 32 (s.reg rc) k))) s

/-- `G.SET.GE.I.U.64` (46_group_immediate.md rule R868). -/
def execGSetGeIU64 (rd rc : Reg) (imm : BitVec 10) (s : State) : Result :=
  groupWrite rd (ofLanes 64 fun k => maskOf 64 (Relation.holds .geU (laneImmediate 64 imm) (lane 64 (s.reg rc) k))) s

/-- `G.SET.GE.I.U.128` (46_group_immediate.md rule R869). -/
def execGSetGeIU128 (rd rc : Reg) (imm : BitVec 10) (s : State) : Result :=
  groupWrite rd (ofLanes 128 fun k => maskOf 128 (Relation.holds .geU (laneImmediate 128 imm) (lane 128 (s.reg rc) k))) s

/-- `G.SET.L.I.16` (46_group_immediate.md rule R870). -/
def execGSetLI16 (rd rc : Reg) (imm : BitVec 10) (s : State) : Result :=
  groupWrite rd (ofLanes 16 fun k => maskOf 16 (Relation.holds .l (laneImmediate 16 imm) (lane 16 (s.reg rc) k))) s

/-- `G.SET.L.I.32` (46_group_immediate.md rule R871). -/
def execGSetLI32 (rd rc : Reg) (imm : BitVec 10) (s : State) : Result :=
  groupWrite rd (ofLanes 32 fun k => maskOf 32 (Relation.holds .l (laneImmediate 32 imm) (lane 32 (s.reg rc) k))) s

/-- `G.SET.L.I.64` (46_group_immediate.md rule R872). -/
def execGSetLI64 (rd rc : Reg) (imm : BitVec 10) (s : State) : Result :=
  groupWrite rd (ofLanes 64 fun k => maskOf 64 (Relation.holds .l (laneImmediate 64 imm) (lane 64 (s.reg rc) k))) s

/-- `G.SET.L.I.128` (46_group_immediate.md rule R873). -/
def execGSetLI128 (rd rc : Reg) (imm : BitVec 10) (s : State) : Result :=
  groupWrite rd (ofLanes 128 fun k => maskOf 128 (Relation.holds .l (laneImmediate 128 imm) (lane 128 (s.reg rc) k))) s

/-- `G.SET.L.I.U.16` (46_group_immediate.md rule R874). -/
def execGSetLIU16 (rd rc : Reg) (imm : BitVec 10) (s : State) : Result :=
  groupWrite rd (ofLanes 16 fun k => maskOf 16 (Relation.holds .lU (laneImmediate 16 imm) (lane 16 (s.reg rc) k))) s

/-- `G.SET.L.I.U.32` (46_group_immediate.md rule R875). -/
def execGSetLIU32 (rd rc : Reg) (imm : BitVec 10) (s : State) : Result :=
  groupWrite rd (ofLanes 32 fun k => maskOf 32 (Relation.holds .lU (laneImmediate 32 imm) (lane 32 (s.reg rc) k))) s

/-- `G.SET.L.I.U.64` (46_group_immediate.md rule R876). -/
def execGSetLIU64 (rd rc : Reg) (imm : BitVec 10) (s : State) : Result :=
  groupWrite rd (ofLanes 64 fun k => maskOf 64 (Relation.holds .lU (laneImmediate 64 imm) (lane 64 (s.reg rc) k))) s

/-- `G.SET.L.I.U.128` (46_group_immediate.md rule R877). -/
def execGSetLIU128 (rd rc : Reg) (imm : BitVec 10) (s : State) : Result :=
  groupWrite rd (ofLanes 128 fun k => maskOf 128 (Relation.holds .lU (laneImmediate 128 imm) (lane 128 (s.reg rc) k))) s

/-- `G.SET.NE.I.16` (46_group_immediate.md rule R878). -/
def execGSetNeI16 (rd rc : Reg) (imm : BitVec 10) (s : State) : Result :=
  groupWrite rd (ofLanes 16 fun k => maskOf 16 (Relation.holds .ne (laneImmediate 16 imm) (lane 16 (s.reg rc) k))) s

/-- `G.SET.NE.I.32` (46_group_immediate.md rule R879). -/
def execGSetNeI32 (rd rc : Reg) (imm : BitVec 10) (s : State) : Result :=
  groupWrite rd (ofLanes 32 fun k => maskOf 32 (Relation.holds .ne (laneImmediate 32 imm) (lane 32 (s.reg rc) k))) s

/-- `G.SET.NE.I.64` (46_group_immediate.md rule R880). -/
def execGSetNeI64 (rd rc : Reg) (imm : BitVec 10) (s : State) : Result :=
  groupWrite rd (ofLanes 64 fun k => maskOf 64 (Relation.holds .ne (laneImmediate 64 imm) (lane 64 (s.reg rc) k))) s

/-- `G.SET.NE.I.128` (46_group_immediate.md rule R881). -/
def execGSetNeI128 (rd rc : Reg) (imm : BitVec 10) (s : State) : Result :=
  groupWrite rd (ofLanes 128 fun k => maskOf 128 (Relation.holds .ne (laneImmediate 128 imm) (lane 128 (s.reg rc) k))) s

/-- `G.SUB.I.16` (46_group_immediate.md rule R882). -/
def execGSubI16 (rd rc : Reg) (imm : BitVec 10) (s : State) : Result :=
  groupWrite rd (ofLanes 16 fun k => laneImmediate 16 imm - lane 16 (s.reg rc) k) s

/-- `G.SUB.I.16.O` (46_group_immediate.md rule R883). -/
def execGSubI16O (rd rc : Reg) (imm : BitVec 10) (s : State) : Result :=
  groupChecked rd (ofCheckedLanes 16 fun k => subSigned (laneImmediate 16 imm) (lane 16 (s.reg rc) k)) s

/-- `G.SUB.I.32` (46_group_immediate.md rule R884). -/
def execGSubI32 (rd rc : Reg) (imm : BitVec 10) (s : State) : Result :=
  groupWrite rd (ofLanes 32 fun k => laneImmediate 32 imm - lane 32 (s.reg rc) k) s

/-- `G.SUB.I.32.O` (46_group_immediate.md rule R885). -/
def execGSubI32O (rd rc : Reg) (imm : BitVec 10) (s : State) : Result :=
  groupChecked rd (ofCheckedLanes 32 fun k => subSigned (laneImmediate 32 imm) (lane 32 (s.reg rc) k)) s

/-- `G.SUB.I.64` (46_group_immediate.md rule R886). -/
def execGSubI64 (rd rc : Reg) (imm : BitVec 10) (s : State) : Result :=
  groupWrite rd (ofLanes 64 fun k => laneImmediate 64 imm - lane 64 (s.reg rc) k) s

/-- `G.SUB.I.64.O` (46_group_immediate.md rule R887). -/
def execGSubI64O (rd rc : Reg) (imm : BitVec 10) (s : State) : Result :=
  groupChecked rd (ofCheckedLanes 64 fun k => subSigned (laneImmediate 64 imm) (lane 64 (s.reg rc) k)) s

/-- `G.SUB.I.128` (46_group_immediate.md rule R888). -/
def execGSubI128 (rd rc : Reg) (imm : BitVec 10) (s : State) : Result :=
  groupWrite rd (ofLanes 128 fun k => laneImmediate 128 imm - lane 128 (s.reg rc) k) s

/-- `G.SUB.I.128.O` (46_group_immediate.md rule R889). -/
def execGSubI128O (rd rc : Reg) (imm : BitVec 10) (s : State) : Result :=
  groupChecked rd (ofCheckedLanes 128 fun k => subSigned (laneImmediate 128 imm) (lane 128 (s.reg rc) k)) s

/-- `G.SUB.I.U.16.O` (46_group_immediate.md rule R890). -/
def execGSubIU16O (rd rc : Reg) (imm : BitVec 10) (s : State) : Result :=
  groupChecked rd (ofCheckedLanes 16 fun k => subUnsigned (laneImmediate 16 imm) (lane 16 (s.reg rc) k)) s

/-- `G.SUB.I.U.32.O` (46_group_immediate.md rule R891). -/
def execGSubIU32O (rd rc : Reg) (imm : BitVec 10) (s : State) : Result :=
  groupChecked rd (ofCheckedLanes 32 fun k => subUnsigned (laneImmediate 32 imm) (lane 32 (s.reg rc) k)) s

/-- `G.SUB.I.U.64.O` (46_group_immediate.md rule R892). -/
def execGSubIU64O (rd rc : Reg) (imm : BitVec 10) (s : State) : Result :=
  groupChecked rd (ofCheckedLanes 64 fun k => subUnsigned (laneImmediate 64 imm) (lane 64 (s.reg rc) k)) s

/-- `G.SUB.I.U.128.O` (46_group_immediate.md rule R893). -/
def execGSubIU128O (rd rc : Reg) (imm : BitVec 10) (s : State) : Result :=
  groupChecked rd (ofCheckedLanes 128 fun k => subUnsigned (laneImmediate 128 imm) (lane 128 (s.reg rc) k)) s

end Sys2Proof.Machine
end

