-- ==== Sys2Proof/Machine/Load.lean ====
section
/-! DEFINITION. The 60 load instructions (40_load.md): one shared body, of which every instruction is an instance. -/

namespace Sys2Proof.Machine

/-- The common body of `Load` and `LoadImmediate` (40_load.md rules R201 and R202), `va` the effective address: the
alignment test, the access, the extension, the write of all 128 bits of `x[rd]`. -/
def load (ext : Extension) (al : Alignment) (size : Nat) (ord : ByteOrder) (rd rc : Reg) (va : Octlet) (s : State) :
    Result :=
  if al.rejects (s.lo rc) size then s.raiseExn .badAddress
  else (s.loadMemory .read (s.lo rc) va size ord).andThen s fun m => .next (s.setReg rd (ext.extend m)).advance

/-- `L.8` (40_load.md rule R210). -/
def execL8 (rd rc rb : Reg) (s : State) : Result :=
  load .signed .unaligned 8 .little rd rc (s.indexedAddress rc rb 8) s

/-- `L.16.B` (40_load.md rule R211). -/
def execL16B (rd rc rb : Reg) (s : State) : Result :=
  load .signed .unaligned 16 .big rd rc (s.indexedAddress rc rb 16) s

/-- `L.16.A.B` (40_load.md rule R212). -/
def execL16AB (rd rc rb : Reg) (s : State) : Result :=
  load .signed .aligned 16 .big rd rc (s.indexedAddress rc rb 16) s

/-- `L.16.L` (40_load.md rule R213). -/
def execL16L (rd rc rb : Reg) (s : State) : Result :=
  load .signed .unaligned 16 .little rd rc (s.indexedAddress rc rb 16) s

/-- `L.16.A.L` (40_load.md rule R214). -/
def execL16AL (rd rc rb : Reg) (s : State) : Result :=
  load .signed .aligned 16 .little rd rc (s.indexedAddress rc rb 16) s

/-- `L.32.B` (40_load.md rule R215). -/
def execL32B (rd rc rb : Reg) (s : State) : Result :=
  load .signed .unaligned 32 .big rd rc (s.indexedAddress rc rb 32) s

/-- `L.32.A.B` (40_load.md rule R216). -/
def execL32AB (rd rc rb : Reg) (s : State) : Result :=
  load .signed .aligned 32 .big rd rc (s.indexedAddress rc rb 32) s

/-- `L.32.L` (40_load.md rule R217). -/
def execL32L (rd rc rb : Reg) (s : State) : Result :=
  load .signed .unaligned 32 .little rd rc (s.indexedAddress rc rb 32) s

/-- `L.32.A.L` (40_load.md rule R218). -/
def execL32AL (rd rc rb : Reg) (s : State) : Result :=
  load .signed .aligned 32 .little rd rc (s.indexedAddress rc rb 32) s

/-- `L.64.B` (40_load.md rule R219). -/
def execL64B (rd rc rb : Reg) (s : State) : Result :=
  load .signed .unaligned 64 .big rd rc (s.indexedAddress rc rb 64) s

/-- `L.64.A.B` (40_load.md rule R220). -/
def execL64AB (rd rc rb : Reg) (s : State) : Result :=
  load .signed .aligned 64 .big rd rc (s.indexedAddress rc rb 64) s

/-- `L.64.L` (40_load.md rule R221). -/
def execL64L (rd rc rb : Reg) (s : State) : Result :=
  load .signed .unaligned 64 .little rd rc (s.indexedAddress rc rb 64) s

/-- `L.64.A.L` (40_load.md rule R222). -/
def execL64AL (rd rc rb : Reg) (s : State) : Result :=
  load .signed .aligned 64 .little rd rc (s.indexedAddress rc rb 64) s

/-- `L.128.B` (40_load.md rule R223). -/
def execL128B (rd rc rb : Reg) (s : State) : Result :=
  load .signed .unaligned 128 .big rd rc (s.indexedAddress rc rb 128) s

/-- `L.128.A.B` (40_load.md rule R224). -/
def execL128AB (rd rc rb : Reg) (s : State) : Result :=
  load .signed .aligned 128 .big rd rc (s.indexedAddress rc rb 128) s

/-- `L.128.L` (40_load.md rule R225). -/
def execL128L (rd rc rb : Reg) (s : State) : Result :=
  load .signed .unaligned 128 .little rd rc (s.indexedAddress rc rb 128) s

/-- `L.128.A.L` (40_load.md rule R226). -/
def execL128AL (rd rc rb : Reg) (s : State) : Result :=
  load .signed .aligned 128 .little rd rc (s.indexedAddress rc rb 128) s

/-- `L.U.8` (40_load.md rule R227). -/
def execLU8 (rd rc rb : Reg) (s : State) : Result :=
  load .unsigned .unaligned 8 .little rd rc (s.indexedAddress rc rb 8) s

/-- `L.U.16.B` (40_load.md rule R228). -/
def execLU16B (rd rc rb : Reg) (s : State) : Result :=
  load .unsigned .unaligned 16 .big rd rc (s.indexedAddress rc rb 16) s

/-- `L.U.16.A.B` (40_load.md rule R229). -/
def execLU16AB (rd rc rb : Reg) (s : State) : Result :=
  load .unsigned .aligned 16 .big rd rc (s.indexedAddress rc rb 16) s

/-- `L.U.16.L` (40_load.md rule R230). -/
def execLU16L (rd rc rb : Reg) (s : State) : Result :=
  load .unsigned .unaligned 16 .little rd rc (s.indexedAddress rc rb 16) s

/-- `L.U.16.A.L` (40_load.md rule R231). -/
def execLU16AL (rd rc rb : Reg) (s : State) : Result :=
  load .unsigned .aligned 16 .little rd rc (s.indexedAddress rc rb 16) s

/-- `L.U.32.B` (40_load.md rule R232). -/
def execLU32B (rd rc rb : Reg) (s : State) : Result :=
  load .unsigned .unaligned 32 .big rd rc (s.indexedAddress rc rb 32) s

/-- `L.U.32.A.B` (40_load.md rule R233). -/
def execLU32AB (rd rc rb : Reg) (s : State) : Result :=
  load .unsigned .aligned 32 .big rd rc (s.indexedAddress rc rb 32) s

/-- `L.U.32.L` (40_load.md rule R234). -/
def execLU32L (rd rc rb : Reg) (s : State) : Result :=
  load .unsigned .unaligned 32 .little rd rc (s.indexedAddress rc rb 32) s

/-- `L.U.32.A.L` (40_load.md rule R235). -/
def execLU32AL (rd rc rb : Reg) (s : State) : Result :=
  load .unsigned .aligned 32 .little rd rc (s.indexedAddress rc rb 32) s

/-- `L.U.64.B` (40_load.md rule R236). -/
def execLU64B (rd rc rb : Reg) (s : State) : Result :=
  load .unsigned .unaligned 64 .big rd rc (s.indexedAddress rc rb 64) s

/-- `L.U.64.A.B` (40_load.md rule R237). -/
def execLU64AB (rd rc rb : Reg) (s : State) : Result :=
  load .unsigned .aligned 64 .big rd rc (s.indexedAddress rc rb 64) s

/-- `L.U.64.L` (40_load.md rule R238). -/
def execLU64L (rd rc rb : Reg) (s : State) : Result :=
  load .unsigned .unaligned 64 .little rd rc (s.indexedAddress rc rb 64) s

/-- `L.U.64.A.L` (40_load.md rule R239). -/
def execLU64AL (rd rc rb : Reg) (s : State) : Result :=
  load .unsigned .aligned 64 .little rd rc (s.indexedAddress rc rb 64) s

/-- `L.I.8` (40_load.md rule R240). -/
def execLI8 (rd rc : Reg) (offset : BitVec 12) (s : State) : Result :=
  load .signed .unaligned 8 .little rd rc (s.offsetAddress rc offset 8) s

/-- `L.I.16.A.B` (40_load.md rule R241). -/
def execLI16AB (rd rc : Reg) (offset : BitVec 12) (s : State) : Result :=
  load .signed .aligned 16 .big rd rc (s.offsetAddress rc offset 16) s

/-- `L.I.16.B` (40_load.md rule R242). -/
def execLI16B (rd rc : Reg) (offset : BitVec 12) (s : State) : Result :=
  load .signed .unaligned 16 .big rd rc (s.offsetAddress rc offset 16) s

/-- `L.I.16.A.L` (40_load.md rule R243). -/
def execLI16AL (rd rc : Reg) (offset : BitVec 12) (s : State) : Result :=
  load .signed .aligned 16 .little rd rc (s.offsetAddress rc offset 16) s

/-- `L.I.16.L` (40_load.md rule R244). -/
def execLI16L (rd rc : Reg) (offset : BitVec 12) (s : State) : Result :=
  load .signed .unaligned 16 .little rd rc (s.offsetAddress rc offset 16) s

/-- `L.I.32.A.B` (40_load.md rule R245). -/
def execLI32AB (rd rc : Reg) (offset : BitVec 12) (s : State) : Result :=
  load .signed .aligned 32 .big rd rc (s.offsetAddress rc offset 32) s

/-- `L.I.32.B` (40_load.md rule R246). -/
def execLI32B (rd rc : Reg) (offset : BitVec 12) (s : State) : Result :=
  load .signed .unaligned 32 .big rd rc (s.offsetAddress rc offset 32) s

/-- `L.I.32.A.L` (40_load.md rule R247). -/
def execLI32AL (rd rc : Reg) (offset : BitVec 12) (s : State) : Result :=
  load .signed .aligned 32 .little rd rc (s.offsetAddress rc offset 32) s

/-- `L.I.32.L` (40_load.md rule R248). -/
def execLI32L (rd rc : Reg) (offset : BitVec 12) (s : State) : Result :=
  load .signed .unaligned 32 .little rd rc (s.offsetAddress rc offset 32) s

/-- `L.I.64.A.B` (40_load.md rule R249). -/
def execLI64AB (rd rc : Reg) (offset : BitVec 12) (s : State) : Result :=
  load .signed .aligned 64 .big rd rc (s.offsetAddress rc offset 64) s

/-- `L.I.64.B` (40_load.md rule R250). -/
def execLI64B (rd rc : Reg) (offset : BitVec 12) (s : State) : Result :=
  load .signed .unaligned 64 .big rd rc (s.offsetAddress rc offset 64) s

/-- `L.I.64.A.L` (40_load.md rule R251). -/
def execLI64AL (rd rc : Reg) (offset : BitVec 12) (s : State) : Result :=
  load .signed .aligned 64 .little rd rc (s.offsetAddress rc offset 64) s

/-- `L.I.64.L` (40_load.md rule R252). -/
def execLI64L (rd rc : Reg) (offset : BitVec 12) (s : State) : Result :=
  load .signed .unaligned 64 .little rd rc (s.offsetAddress rc offset 64) s

/-- `L.I.128.A.B` (40_load.md rule R253). -/
def execLI128AB (rd rc : Reg) (offset : BitVec 12) (s : State) : Result :=
  load .signed .aligned 128 .big rd rc (s.offsetAddress rc offset 128) s

/-- `L.I.128.B` (40_load.md rule R254). -/
def execLI128B (rd rc : Reg) (offset : BitVec 12) (s : State) : Result :=
  load .signed .unaligned 128 .big rd rc (s.offsetAddress rc offset 128) s

/-- `L.I.128.A.L` (40_load.md rule R255). -/
def execLI128AL (rd rc : Reg) (offset : BitVec 12) (s : State) : Result :=
  load .signed .aligned 128 .little rd rc (s.offsetAddress rc offset 128) s

/-- `L.I.128.L` (40_load.md rule R256). -/
def execLI128L (rd rc : Reg) (offset : BitVec 12) (s : State) : Result :=
  load .signed .unaligned 128 .little rd rc (s.offsetAddress rc offset 128) s

/-- `L.I.U.8` (40_load.md rule R257). -/
def execLIU8 (rd rc : Reg) (offset : BitVec 12) (s : State) : Result :=
  load .unsigned .unaligned 8 .little rd rc (s.offsetAddress rc offset 8) s

/-- `L.I.U.16.A.B` (40_load.md rule R258). -/
def execLIU16AB (rd rc : Reg) (offset : BitVec 12) (s : State) : Result :=
  load .unsigned .aligned 16 .big rd rc (s.offsetAddress rc offset 16) s

/-- `L.I.U.16.B` (40_load.md rule R259). -/
def execLIU16B (rd rc : Reg) (offset : BitVec 12) (s : State) : Result :=
  load .unsigned .unaligned 16 .big rd rc (s.offsetAddress rc offset 16) s

/-- `L.I.U.16.A.L` (40_load.md rule R260). -/
def execLIU16AL (rd rc : Reg) (offset : BitVec 12) (s : State) : Result :=
  load .unsigned .aligned 16 .little rd rc (s.offsetAddress rc offset 16) s

/-- `L.I.U.16.L` (40_load.md rule R261). -/
def execLIU16L (rd rc : Reg) (offset : BitVec 12) (s : State) : Result :=
  load .unsigned .unaligned 16 .little rd rc (s.offsetAddress rc offset 16) s

/-- `L.I.U.32.A.B` (40_load.md rule R262). -/
def execLIU32AB (rd rc : Reg) (offset : BitVec 12) (s : State) : Result :=
  load .unsigned .aligned 32 .big rd rc (s.offsetAddress rc offset 32) s

/-- `L.I.U.32.B` (40_load.md rule R263). -/
def execLIU32B (rd rc : Reg) (offset : BitVec 12) (s : State) : Result :=
  load .unsigned .unaligned 32 .big rd rc (s.offsetAddress rc offset 32) s

/-- `L.I.U.32.A.L` (40_load.md rule R264). -/
def execLIU32AL (rd rc : Reg) (offset : BitVec 12) (s : State) : Result :=
  load .unsigned .aligned 32 .little rd rc (s.offsetAddress rc offset 32) s

/-- `L.I.U.32.L` (40_load.md rule R265). -/
def execLIU32L (rd rc : Reg) (offset : BitVec 12) (s : State) : Result :=
  load .unsigned .unaligned 32 .little rd rc (s.offsetAddress rc offset 32) s

/-- `L.I.U.64.A.B` (40_load.md rule R266). -/
def execLIU64AB (rd rc : Reg) (offset : BitVec 12) (s : State) : Result :=
  load .unsigned .aligned 64 .big rd rc (s.offsetAddress rc offset 64) s

/-- `L.I.U.64.B` (40_load.md rule R267). -/
def execLIU64B (rd rc : Reg) (offset : BitVec 12) (s : State) : Result :=
  load .unsigned .unaligned 64 .big rd rc (s.offsetAddress rc offset 64) s

/-- `L.I.U.64.A.L` (40_load.md rule R268). -/
def execLIU64AL (rd rc : Reg) (offset : BitVec 12) (s : State) : Result :=
  load .unsigned .aligned 64 .little rd rc (s.offsetAddress rc offset 64) s

/-- `L.I.U.64.L` (40_load.md rule R269). -/
def execLIU64L (rd rc : Reg) (offset : BitVec 12) (s : State) : Result :=
  load .unsigned .unaligned 64 .little rd rc (s.offsetAddress rc offset 64) s

end Sys2Proof.Machine
end

