-- ==== Sys2Proof/Machine/Store.lean ====
section
/-! DEFINITION. The 38 store instructions (41_store.md), and the read-modify-write of one aligned octlet that the
multiplex stores share with the in-place stores of 44_store_atomic.md. -/

namespace Sys2Proof.Machine

/-- The common body of the plain codes of `Store` and `StoreImmediate` (41_store.md rules R301 and R302), `va` the
effective address: the alignment test, then the low `size` bits of `x[rd]` stored. -/
def store (al : Alignment) (size : Nat) (ord : ByteOrder) (rd rc : Reg) (va : Octlet) (s : State) : Result :=
  if al.rejects (s.lo rc) size then s.raiseExn .badAddress
  else (s.storeMemory (s.lo rc) va size ord ((s.reg rd).setWidth size)).andThen s fun t => .next t.advance

/-- The `lock` block over one aligned octlet (20_memory.md rule R104): `a <- LoadMemoryW`, then the octlet `update a`
stored if there is one, then `finish a` on the state.  A step is indivisible, so the block is. -/
def lockedOctlet (ord : ByteOrder) (rc : Reg) (va : Octlet) (s : State) (update : Octlet → Option Octlet)
    (finish : Octlet → State → State) : Result :=
  if misaligned (s.lo rc) 64 then s.raiseExn .badAddress
  else
    (s.loadMemory .write (s.lo rc) va 64 ord).andThen s fun a =>
      match update a with
      | none => .next (finish a s).advance
      | some m => (s.storeMemory (s.lo rc) va 64 ord m).andThen s fun t => .next (finish a t).advance

/-- `(d[127:64] and d[63:0]) or (a and not d[63:0])` (41_store.md rule R303). -/
def multiplexed (s : State) (rd : Reg) (a : Octlet) : Octlet := (s.hi rd &&& s.lo rd) ||| (a &&& ~~~s.lo rd)

/-- The common body of the multiplex stores (41_store.md rule R303); no register is written. -/
def storeMultiplex (ord : ByteOrder) (rd rc : Reg) (va : Octlet) (s : State) : Result :=
  lockedOctlet ord rc va s (fun a => some (multiplexed s rd a)) fun _ t => t

/-- `S.8` (41_store.md rule R310). -/
def execS8 (rd rc rb : Reg) (s : State) : Result := store .unaligned 8 .little rd rc (s.indexedAddress rc rb 8) s

/-- `S.16.B` (41_store.md rule R311). -/
def execS16B (rd rc rb : Reg) (s : State) : Result := store .unaligned 16 .big rd rc (s.indexedAddress rc rb 16) s

/-- `S.16.A.B` (41_store.md rule R312). -/
def execS16AB (rd rc rb : Reg) (s : State) : Result := store .aligned 16 .big rd rc (s.indexedAddress rc rb 16) s

/-- `S.16.L` (41_store.md rule R313). -/
def execS16L (rd rc rb : Reg) (s : State) : Result := store .unaligned 16 .little rd rc (s.indexedAddress rc rb 16) s

/-- `S.16.A.L` (41_store.md rule R314). -/
def execS16AL (rd rc rb : Reg) (s : State) : Result := store .aligned 16 .little rd rc (s.indexedAddress rc rb 16) s

/-- `S.32.B` (41_store.md rule R315). -/
def execS32B (rd rc rb : Reg) (s : State) : Result := store .unaligned 32 .big rd rc (s.indexedAddress rc rb 32) s

/-- `S.32.A.B` (41_store.md rule R316). -/
def execS32AB (rd rc rb : Reg) (s : State) : Result := store .aligned 32 .big rd rc (s.indexedAddress rc rb 32) s

/-- `S.32.L` (41_store.md rule R317). -/
def execS32L (rd rc rb : Reg) (s : State) : Result := store .unaligned 32 .little rd rc (s.indexedAddress rc rb 32) s

/-- `S.32.A.L` (41_store.md rule R318). -/
def execS32AL (rd rc rb : Reg) (s : State) : Result := store .aligned 32 .little rd rc (s.indexedAddress rc rb 32) s

/-- `S.64.B` (41_store.md rule R319). -/
def execS64B (rd rc rb : Reg) (s : State) : Result := store .unaligned 64 .big rd rc (s.indexedAddress rc rb 64) s

/-- `S.64.A.B` (41_store.md rule R320). -/
def execS64AB (rd rc rb : Reg) (s : State) : Result := store .aligned 64 .big rd rc (s.indexedAddress rc rb 64) s

/-- `S.64.L` (41_store.md rule R321). -/
def execS64L (rd rc rb : Reg) (s : State) : Result := store .unaligned 64 .little rd rc (s.indexedAddress rc rb 64) s

/-- `S.64.A.L` (41_store.md rule R322). -/
def execS64AL (rd rc rb : Reg) (s : State) : Result := store .aligned 64 .little rd rc (s.indexedAddress rc rb 64) s

/-- `S.128.B` (41_store.md rule R323). -/
def execS128B (rd rc rb : Reg) (s : State) : Result := store .unaligned 128 .big rd rc (s.indexedAddress rc rb 128) s

/-- `S.128.A.B` (41_store.md rule R324). -/
def execS128AB (rd rc rb : Reg) (s : State) : Result := store .aligned 128 .big rd rc (s.indexedAddress rc rb 128) s

/-- `S.128.L` (41_store.md rule R325). -/
def execS128L (rd rc rb : Reg) (s : State) : Result :=
  store .unaligned 128 .little rd rc (s.indexedAddress rc rb 128) s

/-- `S.128.A.L` (41_store.md rule R326). -/
def execS128AL (rd rc rb : Reg) (s : State) : Result :=
  store .aligned 128 .little rd rc (s.indexedAddress rc rb 128) s

/-- `S.MUX.64.A.B` (41_store.md rule R327). -/
def execSMux64AB (rd rc rb : Reg) (s : State) : Result := storeMultiplex .big rd rc (s.indexedAddress rc rb 64) s

/-- `S.MUX.64.A.L` (41_store.md rule R328). -/
def execSMux64AL (rd rc rb : Reg) (s : State) : Result := storeMultiplex .little rd rc (s.indexedAddress rc rb 64) s

/-- `S.I.8` (41_store.md rule R340). -/
def execSI8 (rd rc : Reg) (offset : BitVec 12) (s : State) : Result :=
  store .unaligned 8 .little rd rc (s.offsetAddress rc offset 8) s

/-- `S.I.16.A.B` (41_store.md rule R341). -/
def execSI16AB (rd rc : Reg) (offset : BitVec 12) (s : State) : Result :=
  store .aligned 16 .big rd rc (s.offsetAddress rc offset 16) s

/-- `S.I.16.B` (41_store.md rule R342). -/
def execSI16B (rd rc : Reg) (offset : BitVec 12) (s : State) : Result :=
  store .unaligned 16 .big rd rc (s.offsetAddress rc offset 16) s

/-- `S.I.16.A.L` (41_store.md rule R343). -/
def execSI16AL (rd rc : Reg) (offset : BitVec 12) (s : State) : Result :=
  store .aligned 16 .little rd rc (s.offsetAddress rc offset 16) s

/-- `S.I.16.L` (41_store.md rule R344). -/
def execSI16L (rd rc : Reg) (offset : BitVec 12) (s : State) : Result :=
  store .unaligned 16 .little rd rc (s.offsetAddress rc offset 16) s

/-- `S.I.32.A.B` (41_store.md rule R345). -/
def execSI32AB (rd rc : Reg) (offset : BitVec 12) (s : State) : Result :=
  store .aligned 32 .big rd rc (s.offsetAddress rc offset 32) s

/-- `S.I.32.B` (41_store.md rule R346). -/
def execSI32B (rd rc : Reg) (offset : BitVec 12) (s : State) : Result :=
  store .unaligned 32 .big rd rc (s.offsetAddress rc offset 32) s

/-- `S.I.32.A.L` (41_store.md rule R347). -/
def execSI32AL (rd rc : Reg) (offset : BitVec 12) (s : State) : Result :=
  store .aligned 32 .little rd rc (s.offsetAddress rc offset 32) s

/-- `S.I.32.L` (41_store.md rule R348). -/
def execSI32L (rd rc : Reg) (offset : BitVec 12) (s : State) : Result :=
  store .unaligned 32 .little rd rc (s.offsetAddress rc offset 32) s

/-- `S.I.64.A.B` (41_store.md rule R349). -/
def execSI64AB (rd rc : Reg) (offset : BitVec 12) (s : State) : Result :=
  store .aligned 64 .big rd rc (s.offsetAddress rc offset 64) s

/-- `S.I.64.B` (41_store.md rule R350). -/
def execSI64B (rd rc : Reg) (offset : BitVec 12) (s : State) : Result :=
  store .unaligned 64 .big rd rc (s.offsetAddress rc offset 64) s

/-- `S.I.64.A.L` (41_store.md rule R351). -/
def execSI64AL (rd rc : Reg) (offset : BitVec 12) (s : State) : Result :=
  store .aligned 64 .little rd rc (s.offsetAddress rc offset 64) s

/-- `S.I.64.L` (41_store.md rule R352). -/
def execSI64L (rd rc : Reg) (offset : BitVec 12) (s : State) : Result :=
  store .unaligned 64 .little rd rc (s.offsetAddress rc offset 64) s

/-- `S.I.128.A.B` (41_store.md rule R353). -/
def execSI128AB (rd rc : Reg) (offset : BitVec 12) (s : State) : Result :=
  store .aligned 128 .big rd rc (s.offsetAddress rc offset 128) s

/-- `S.I.128.B` (41_store.md rule R354). -/
def execSI128B (rd rc : Reg) (offset : BitVec 12) (s : State) : Result :=
  store .unaligned 128 .big rd rc (s.offsetAddress rc offset 128) s

/-- `S.I.128.A.L` (41_store.md rule R355). -/
def execSI128AL (rd rc : Reg) (offset : BitVec 12) (s : State) : Result :=
  store .aligned 128 .little rd rc (s.offsetAddress rc offset 128) s

/-- `S.I.128.L` (41_store.md rule R356). -/
def execSI128L (rd rc : Reg) (offset : BitVec 12) (s : State) : Result :=
  store .unaligned 128 .little rd rc (s.offsetAddress rc offset 128) s

/-- `S.MUXI.64.A.B` (41_store.md rule R357). -/
def execSMuxi64AB (rd rc : Reg) (offset : BitVec 12) (s : State) : Result :=
  storeMultiplex .big rd rc (s.offsetAddress rc offset 64) s

/-- `S.MUXI.64.A.L` (41_store.md rule R358). -/
def execSMuxi64AL (rd rc : Reg) (offset : BitVec 12) (s : State) : Result :=
  storeMultiplex .little rd rc (s.offsetAddress rc offset 64) s

end Sys2Proof.Machine
end

