-- ==== Sys2Proof/Machine/StoreAtomic.lean ====
section
/-! DEFINITION. The 14 atomic stores (44_store_atomic.md): double compare swap, and add swap, compare swap and multiplex
swap, each a `lock` block that returns the old contents. -/

namespace Sys2Proof.Machine

/-- S.A.S and S.A.S.I (44_store_atomic.md rules R602 and R603): the sum stored, the old octlet returned in
`x[rd][63:0]`. -/
def addSwap (ord : ByteOrder) (rd rc : Reg) (va : Octlet) (s : State) : Result :=
  lockedOctlet ord rc va s (fun a => some (s.lo rd + a)) fun a t => t.setReg64 rd a

/-- S.C.S and S.C.S.I (44_store_atomic.md rules R602 and R603): `d[127:64]` stored if the octlet is `d[63:0]`, the old
octlet returned in `x[rd][63:0]` either way. -/
def compareSwap (ord : ByteOrder) (rd rc : Reg) (va : Octlet) (s : State) : Result :=
  lockedOctlet ord rc va s (fun a => if a = s.lo rd then some (s.hi rd) else none) fun a t => t.setReg64 rd a

/-- S.M.S and S.M.S.I (44_store_atomic.md rules R602 and R603): the multiplexed octlet stored, the old one returned in
`x[rd][63:0]`. -/
def multiplexSwap (ord : ByteOrder) (rd rc : Reg) (va : Octlet) (s : State) : Result :=
  lockedOctlet ord rc va s (fun a => some (multiplexed s rd a)) fun a t => t.setReg64 rd a

/-- `StoreDoubleCompareSwap` (44_store_atomic.md rule R601): two aligned octlets loaded with write permission, the one
at the `rc` address first; if both hold the expected values, both are stored; the old octlets are returned in all 128
bits of `x[rd]`. -/
def doubleCompareSwap (ord : ByteOrder) (rd rc rb : Reg) (s : State) : Result :=
  if misaligned (s.lo rc) 64 || misaligned (s.lo rb) 64 then s.raiseExn .badAddress
  else
    (s.loadMemory .write (s.lo rc) (s.lo rc) 64 ord).andThen s fun a1 =>
      (s.loadMemory .write (s.lo rb) (s.lo rb) 64 ord).andThen s fun a2 =>
        if s.hi rc ++ s.hi rb = a1 ++ a2 then
          (s.storeMemory (s.lo rc) (s.lo rc) 64 ord (s.hi rd)).andThen s fun t =>
            (t.storeMemory (s.lo rb) (s.lo rb) 64 ord (s.lo rd)).andThen s fun u =>
              .next (u.setReg rd (a1 ++ a2)).advance
        else .next (s.setReg rd (a1 ++ a2)).advance

/-- `S.D.C.S.64.A.B` (44_store_atomic.md rule R610). -/
def execSDCS64AB (rd rc rb : Reg) (s : State) : Result := doubleCompareSwap .big rd rc rb s

/-- `S.D.C.S.64.A.L` (44_store_atomic.md rule R611). -/
def execSDCS64AL (rd rc rb : Reg) (s : State) : Result := doubleCompareSwap .little rd rc rb s

/-- `S.A.S.I.64.A.B` (44_store_atomic.md rule R620). -/
def execSASI64AB (rd rc : Reg) (offset : BitVec 12) (s : State) : Result :=
  addSwap .big rd rc (s.offsetAddress rc offset 64) s

/-- `S.A.S.I.64.A.L` (44_store_atomic.md rule R621). -/
def execSASI64AL (rd rc : Reg) (offset : BitVec 12) (s : State) : Result :=
  addSwap .little rd rc (s.offsetAddress rc offset 64) s

/-- `S.C.S.I.64.A.B` (44_store_atomic.md rule R622). -/
def execSCSI64AB (rd rc : Reg) (offset : BitVec 12) (s : State) : Result :=
  compareSwap .big rd rc (s.offsetAddress rc offset 64) s

/-- `S.C.S.I.64.A.L` (44_store_atomic.md rule R623). -/
def execSCSI64AL (rd rc : Reg) (offset : BitVec 12) (s : State) : Result :=
  compareSwap .little rd rc (s.offsetAddress rc offset 64) s

/-- `S.M.S.I.64.A.B` (44_store_atomic.md rule R624). -/
def execSMSI64AB (rd rc : Reg) (offset : BitVec 12) (s : State) : Result :=
  multiplexSwap .big rd rc (s.offsetAddress rc offset 64) s

/-- `S.M.S.I.64.A.L` (44_store_atomic.md rule R625). -/
def execSMSI64AL (rd rc : Reg) (offset : BitVec 12) (s : State) : Result :=
  multiplexSwap .little rd rc (s.offsetAddress rc offset 64) s

/-- `S.A.S.64.A.B` (44_store_atomic.md rule R630). -/
def execSAS64AB (rd rc rb : Reg) (s : State) : Result := addSwap .big rd rc (s.indexedAddress rc rb 64) s

/-- `S.A.S.64.A.L` (44_store_atomic.md rule R631). -/
def execSAS64AL (rd rc rb : Reg) (s : State) : Result := addSwap .little rd rc (s.indexedAddress rc rb 64) s

/-- `S.C.S.64.A.B` (44_store_atomic.md rule R632). -/
def execSCS64AB (rd rc rb : Reg) (s : State) : Result := compareSwap .big rd rc (s.indexedAddress rc rb 64) s

/-- `S.C.S.64.A.L` (44_store_atomic.md rule R633). -/
def execSCS64AL (rd rc rb : Reg) (s : State) : Result := compareSwap .little rd rc (s.indexedAddress rc rb 64) s

/-- `S.M.S.64.A.B` (44_store_atomic.md rule R634). -/
def execSMS64AB (rd rc rb : Reg) (s : State) : Result := multiplexSwap .big rd rc (s.indexedAddress rc rb 64) s

/-- `S.M.S.64.A.L` (44_store_atomic.md rule R635). -/
def execSMS64AL (rd rc rb : Reg) (s : State) : Result := multiplexSwap .little rd rc (s.indexedAddress rc rb 64) s

end Sys2Proof.Machine
end

