-- ==== Sys2Proof/Machine/Dispatch.lean ====
section
/-! DEFINITION. The meaning of every instruction: one arm per constructor, one direct call of its meaning. -/

namespace Sys2Proof.Machine

open Sys2Proof

-- One arm per row of spec/opcode_table.json, in its order.
def exec (i : Instr) (s : State) : Host.Outcome State Fault Refusal :=
  match i with
  | .l8 rd rc rb => Sys2Proof.Machine.execL8 rd rc rb s
  | .l16B rd rc rb => Sys2Proof.Machine.execL16B rd rc rb s
  | .l16AB rd rc rb => Sys2Proof.Machine.execL16AB rd rc rb s
  | .l16L rd rc rb => Sys2Proof.Machine.execL16L rd rc rb s
  | .l16AL rd rc rb => Sys2Proof.Machine.execL16AL rd rc rb s
  | .l32B rd rc rb => Sys2Proof.Machine.execL32B rd rc rb s
  | .l32AB rd rc rb => Sys2Proof.Machine.execL32AB rd rc rb s
  | .l32L rd rc rb => Sys2Proof.Machine.execL32L rd rc rb s
  | .l32AL rd rc rb => Sys2Proof.Machine.execL32AL rd rc rb s
  | .l64B rd rc rb => Sys2Proof.Machine.execL64B rd rc rb s
  | .l64AB rd rc rb => Sys2Proof.Machine.execL64AB rd rc rb s
  | .l64L rd rc rb => Sys2Proof.Machine.execL64L rd rc rb s
  | .l64AL rd rc rb => Sys2Proof.Machine.execL64AL rd rc rb s
  | .l128B rd rc rb => Sys2Proof.Machine.execL128B rd rc rb s
  | .l128AB rd rc rb => Sys2Proof.Machine.execL128AB rd rc rb s
  | .l128L rd rc rb => Sys2Proof.Machine.execL128L rd rc rb s
  | .l128AL rd rc rb => Sys2Proof.Machine.execL128AL rd rc rb s
  | .lU8 rd rc rb => Sys2Proof.Machine.execLU8 rd rc rb s
  | .lU16B rd rc rb => Sys2Proof.Machine.execLU16B rd rc rb s
  | .lU16AB rd rc rb => Sys2Proof.Machine.execLU16AB rd rc rb s
  | .lU16L rd rc rb => Sys2Proof.Machine.execLU16L rd rc rb s
  | .lU16AL rd rc rb => Sys2Proof.Machine.execLU16AL rd rc rb s
  | .lU32B rd rc rb => Sys2Proof.Machine.execLU32B rd rc rb s
  | .lU32AB rd rc rb => Sys2Proof.Machine.execLU32AB rd rc rb s
  | .lU32L rd rc rb => Sys2Proof.Machine.execLU32L rd rc rb s
  | .lU32AL rd rc rb => Sys2Proof.Machine.execLU32AL rd rc rb s
  | .lU64B rd rc rb => Sys2Proof.Machine.execLU64B rd rc rb s
  | .lU64AB rd rc rb => Sys2Proof.Machine.execLU64AB rd rc rb s
  | .lU64L rd rc rb => Sys2Proof.Machine.execLU64L rd rc rb s
  | .lU64AL rd rc rb => Sys2Proof.Machine.execLU64AL rd rc rb s
  | .lI8 rd rc offset => Sys2Proof.Machine.execLI8 rd rc offset s
  | .lI16AB rd rc offset => Sys2Proof.Machine.execLI16AB rd rc offset s
  | .lI16B rd rc offset => Sys2Proof.Machine.execLI16B rd rc offset s
  | .lI16AL rd rc offset => Sys2Proof.Machine.execLI16AL rd rc offset s
  | .lI16L rd rc offset => Sys2Proof.Machine.execLI16L rd rc offset s
  | .lI32AB rd rc offset => Sys2Proof.Machine.execLI32AB rd rc offset s
  | .lI32B rd rc offset => Sys2Proof.Machine.execLI32B rd rc offset s
  | .lI32AL rd rc offset => Sys2Proof.Machine.execLI32AL rd rc offset s
  | .lI32L rd rc offset => Sys2Proof.Machine.execLI32L rd rc offset s
  | .lI64AB rd rc offset => Sys2Proof.Machine.execLI64AB rd rc offset s
  | .lI64B rd rc offset => Sys2Proof.Machine.execLI64B rd rc offset s
  | .lI64AL rd rc offset => Sys2Proof.Machine.execLI64AL rd rc offset s
  | .lI64L rd rc offset => Sys2Proof.Machine.execLI64L rd rc offset s
  | .lI128AB rd rc offset => Sys2Proof.Machine.execLI128AB rd rc offset s
  | .lI128B rd rc offset => Sys2Proof.Machine.execLI128B rd rc offset s
  | .lI128AL rd rc offset => Sys2Proof.Machine.execLI128AL rd rc offset s
  | .lI128L rd rc offset => Sys2Proof.Machine.execLI128L rd rc offset s
  | .lIU8 rd rc offset => Sys2Proof.Machine.execLIU8 rd rc offset s
  | .lIU16AB rd rc offset => Sys2Proof.Machine.execLIU16AB rd rc offset s
  | .lIU16B rd rc offset => Sys2Proof.Machine.execLIU16B rd rc offset s
  | .lIU16AL rd rc offset => Sys2Proof.Machine.execLIU16AL rd rc offset s
  | .lIU16L rd rc offset => Sys2Proof.Machine.execLIU16L rd rc offset s
  | .lIU32AB rd rc offset => Sys2Proof.Machine.execLIU32AB rd rc offset s
  | .lIU32B rd rc offset => Sys2Proof.Machine.execLIU32B rd rc offset s
  | .lIU32AL rd rc offset => Sys2Proof.Machine.execLIU32AL rd rc offset s
  | .lIU32L rd rc offset => Sys2Proof.Machine.execLIU32L rd rc offset s
  | .lIU64AB rd rc offset => Sys2Proof.Machine.execLIU64AB rd rc offset s
  | .lIU64B rd rc offset => Sys2Proof.Machine.execLIU64B rd rc offset s
  | .lIU64AL rd rc offset => Sys2Proof.Machine.execLIU64AL rd rc offset s
  | .lIU64L rd rc offset => Sys2Proof.Machine.execLIU64L rd rc offset s
  | .s8 rd rc rb => Sys2Proof.Machine.execS8 rd rc rb s
  | .s16B rd rc rb => Sys2Proof.Machine.execS16B rd rc rb s
  | .s16AB rd rc rb => Sys2Proof.Machine.execS16AB rd rc rb s
  | .s16L rd rc rb => Sys2Proof.Machine.execS16L rd rc rb s
  | .s16AL rd rc rb => Sys2Proof.Machine.execS16AL rd rc rb s
  | .s32B rd rc rb => Sys2Proof.Machine.execS32B rd rc rb s
  | .s32AB rd rc rb => Sys2Proof.Machine.execS32AB rd rc rb s
  | .s32L rd rc rb => Sys2Proof.Machine.execS32L rd rc rb s
  | .s32AL rd rc rb => Sys2Proof.Machine.execS32AL rd rc rb s
  | .s64B rd rc rb => Sys2Proof.Machine.execS64B rd rc rb s
  | .s64AB rd rc rb => Sys2Proof.Machine.execS64AB rd rc rb s
  | .s64L rd rc rb => Sys2Proof.Machine.execS64L rd rc rb s
  | .s64AL rd rc rb => Sys2Proof.Machine.execS64AL rd rc rb s
  | .s128B rd rc rb => Sys2Proof.Machine.execS128B rd rc rb s
  | .s128AB rd rc rb => Sys2Proof.Machine.execS128AB rd rc rb s
  | .s128L rd rc rb => Sys2Proof.Machine.execS128L rd rc rb s
  | .s128AL rd rc rb => Sys2Proof.Machine.execS128AL rd rc rb s
  | .sMux64AB rd rc rb => Sys2Proof.Machine.execSMux64AB rd rc rb s
  | .sMux64AL rd rc rb => Sys2Proof.Machine.execSMux64AL rd rc rb s
  | .sI8 rd rc offset => Sys2Proof.Machine.execSI8 rd rc offset s
  | .sI16AB rd rc offset => Sys2Proof.Machine.execSI16AB rd rc offset s
  | .sI16B rd rc offset => Sys2Proof.Machine.execSI16B rd rc offset s
  | .sI16AL rd rc offset => Sys2Proof.Machine.execSI16AL rd rc offset s
  | .sI16L rd rc offset => Sys2Proof.Machine.execSI16L rd rc offset s
  | .sI32AB rd rc offset => Sys2Proof.Machine.execSI32AB rd rc offset s
  | .sI32B rd rc offset => Sys2Proof.Machine.execSI32B rd rc offset s
  | .sI32AL rd rc offset => Sys2Proof.Machine.execSI32AL rd rc offset s
  | .sI32L rd rc offset => Sys2Proof.Machine.execSI32L rd rc offset s
  | .sI64AB rd rc offset => Sys2Proof.Machine.execSI64AB rd rc offset s
  | .sI64B rd rc offset => Sys2Proof.Machine.execSI64B rd rc offset s
  | .sI64AL rd rc offset => Sys2Proof.Machine.execSI64AL rd rc offset s
  | .sI64L rd rc offset => Sys2Proof.Machine.execSI64L rd rc offset s
  | .sI128AB rd rc offset => Sys2Proof.Machine.execSI128AB rd rc offset s
  | .sI128B rd rc offset => Sys2Proof.Machine.execSI128B rd rc offset s
  | .sI128AL rd rc offset => Sys2Proof.Machine.execSI128AL rd rc offset s
  | .sI128L rd rc offset => Sys2Proof.Machine.execSI128L rd rc offset s
  | .sMuxi64AB rd rc offset => Sys2Proof.Machine.execSMuxi64AB rd rc offset s
  | .sMuxi64AL rd rc offset => Sys2Proof.Machine.execSMuxi64AL rd rc offset s
  | .aRes imm => Sys2Proof.Machine.execARes imm s
  | .aAdd rd rc rb => Sys2Proof.Machine.execAAdd rd rc rb s
  | .aAddO rd rc rb => Sys2Proof.Machine.execAAddO rd rc rb s
  | .aAddUO rd rc rb => Sys2Proof.Machine.execAAddUO rd rc rb s
  | .aAnd rd rc rb => Sys2Proof.Machine.execAAnd rd rc rb s
  | .aAndn rd rc rb => Sys2Proof.Machine.execAAndn rd rc rb s
  | .aNand rd rc rb => Sys2Proof.Machine.execANand rd rc rb s
  | .aNor rd rc rb => Sys2Proof.Machine.execANor rd rc rb s
  | .aOr rd rc rb => Sys2Proof.Machine.execAOr rd rc rb s
  | .aOrn rd rc rb => Sys2Proof.Machine.execAOrn rd rc rb s
  | .aXnor rd rc rb => Sys2Proof.Machine.execAXnor rd rc rb s
  | .aXor rd rc rb => Sys2Proof.Machine.execAXor rd rc rb s
  | .aComAndE rd rc => Sys2Proof.Machine.execAComAndE rd rc s
  | .aComAndNe rd rc => Sys2Proof.Machine.execAComAndNe rd rc s
  | .aComE rd rc => Sys2Proof.Machine.execAComE rd rc s
  | .aComGe rd rc => Sys2Proof.Machine.execAComGe rd rc s
  | .aComGeU rd rc => Sys2Proof.Machine.execAComGeU rd rc s
  | .aComL rd rc => Sys2Proof.Machine.execAComL rd rc s
  | .aComLU rd rc => Sys2Proof.Machine.execAComLU rd rc s
  | .aComNe rd rc => Sys2Proof.Machine.execAComNe rd rc s
  | .aCopyI rd imm => Sys2Proof.Machine.execACopyI rd imm s
  | .aAddI rd rc imm => Sys2Proof.Machine.execAAddI rd rc imm s
  | .aAddIO rd rc imm => Sys2Proof.Machine.execAAddIO rd rc imm s
  | .aAddIUO rd rc imm => Sys2Proof.Machine.execAAddIUO rd rc imm s
  | .aAndI rd rc imm => Sys2Proof.Machine.execAAndI rd rc imm s
  | .aNandI rd rc imm => Sys2Proof.Machine.execANandI rd rc imm s
  | .aNorI rd rc imm => Sys2Proof.Machine.execANorI rd rc imm s
  | .aOrI rd rc imm => Sys2Proof.Machine.execAOrI rd rc imm s
  | .aXorI rd rc imm => Sys2Proof.Machine.execAXorI rd rc imm s
  | .aSetAndEI rd rc imm => Sys2Proof.Machine.execASetAndEI rd rc imm s
  | .aSetAndNeI rd rc imm => Sys2Proof.Machine.execASetAndNeI rd rc imm s
  | .aSetEI rd rc imm => Sys2Proof.Machine.execASetEI rd rc imm s
  | .aSetGeI rd rc imm => Sys2Proof.Machine.execASetGeI rd rc imm s
  | .aSetLI rd rc imm => Sys2Proof.Machine.execASetLI rd rc imm s
  | .aSetNeI rd rc imm => Sys2Proof.Machine.execASetNeI rd rc imm s
  | .aSetGeIU rd rc imm => Sys2Proof.Machine.execASetGeIU rd rc imm s
  | .aSetLIU rd rc imm => Sys2Proof.Machine.execASetLIU rd rc imm s
  | .aSubI rd rc imm => Sys2Proof.Machine.execASubI rd rc imm s
  | .aSubIO rd rc imm => Sys2Proof.Machine.execASubIO rd rc imm s
  | .aSubIUO rd rc imm => Sys2Proof.Machine.execASubIUO rd rc imm s
  | .aSetAndE rd rc rb => Sys2Proof.Machine.execASetAndE rd rc rb s
  | .aSetAndNe rd rc rb => Sys2Proof.Machine.execASetAndNe rd rc rb s
  | .aSetE rd rc rb => Sys2Proof.Machine.execASetE rd rc rb s
  | .aSetGe rd rc rb => Sys2Proof.Machine.execASetGe rd rc rb s
  | .aSetGeU rd rc rb => Sys2Proof.Machine.execASetGeU rd rc rb s
  | .aSetL rd rc rb => Sys2Proof.Machine.execASetL rd rc rb s
  | .aSetLU rd rc rb => Sys2Proof.Machine.execASetLU rd rc rb s
  | .aSetNe rd rc rb => Sys2Proof.Machine.execASetNe rd rc rb s
  | .aSub rd rc rb => Sys2Proof.Machine.execASub rd rc rb s
  | .aSubO rd rc rb => Sys2Proof.Machine.execASubO rd rc rb s
  | .aSubUO rd rc rb => Sys2Proof.Machine.execASubUO rd rc rb s
  | .aShlIAdd rd rc rb amount => Sys2Proof.Machine.execAShlIAdd rd rc rb amount s
  | .aShlISub rd rc rb amount => Sys2Proof.Machine.execAShlISub rd rc rb amount s
  | .aShlI rd rc simm => Sys2Proof.Machine.execAShlI rd rc simm s
  | .aShlIO rd rc simm => Sys2Proof.Machine.execAShlIO rd rc simm s
  | .aShlIUO rd rc simm => Sys2Proof.Machine.execAShlIUO rd rc simm s
  | .aShrI rd rc simm => Sys2Proof.Machine.execAShrI rd rc simm s
  | .aShrIU rd rc simm => Sys2Proof.Machine.execAShrIU rd rc simm s
  | .aMux rd rc rb ra => Sys2Proof.Machine.execAMux rd rc rb ra s
  | .b rd rc rb => Sys2Proof.Machine.execB rd rc rb s
  | .bBack rd rc rb => Sys2Proof.Machine.execBBack rd rc rb s
  | .bBarrier rd rc rb => Sys2Proof.Machine.execBBarrier rd rc rb s
  | .bAndE rd rc offset => Sys2Proof.Machine.execBAndE rd rc offset s
  | .bAndNe rd rc offset => Sys2Proof.Machine.execBAndNe rd rc offset s
  | .bE rd rc offset => Sys2Proof.Machine.execBE rd rc offset s
  | .bGe rd rc offset => Sys2Proof.Machine.execBGe rd rc offset s
  | .bL rd rc offset => Sys2Proof.Machine.execBL rd rc offset s
  | .bNe rd rc offset => Sys2Proof.Machine.execBNe rd rc offset s
  | .bGeU rd rc offset => Sys2Proof.Machine.execBGeU rd rc offset s
  | .bLU rd rc offset => Sys2Proof.Machine.execBLU rd rc offset s
  | .bEF16 rd rc offset => Sys2Proof.Machine.execBEF16 rd rc offset s
  | .bEF32 rd rc offset => Sys2Proof.Machine.execBEF32 rd rc offset s
  | .bEF64 rd rc offset => Sys2Proof.Machine.execBEF64 rd rc offset s
  | .bEF128 rd rc offset => Sys2Proof.Machine.execBEF128 rd rc offset s
  | .bGeF16 rd rc offset => Sys2Proof.Machine.execBGeF16 rd rc offset s
  | .bGeF32 rd rc offset => Sys2Proof.Machine.execBGeF32 rd rc offset s
  | .bGeF64 rd rc offset => Sys2Proof.Machine.execBGeF64 rd rc offset s
  | .bGeF128 rd rc offset => Sys2Proof.Machine.execBGeF128 rd rc offset s
  | .bLF16 rd rc offset => Sys2Proof.Machine.execBLF16 rd rc offset s
  | .bLF32 rd rc offset => Sys2Proof.Machine.execBLF32 rd rc offset s
  | .bLF64 rd rc offset => Sys2Proof.Machine.execBLF64 rd rc offset s
  | .bLF128 rd rc offset => Sys2Proof.Machine.execBLF128 rd rc offset s
  | .bLgF16 rd rc offset => Sys2Proof.Machine.execBLgF16 rd rc offset s
  | .bLgF32 rd rc offset => Sys2Proof.Machine.execBLgF32 rd rc offset s
  | .bLgF64 rd rc offset => Sys2Proof.Machine.execBLgF64 rd rc offset s
  | .bLgF128 rd rc offset => Sys2Proof.Machine.execBLgF128 rd rc offset s
  | .bIF32 rd rc offset => Sys2Proof.Machine.execBIF32 rd rc offset s
  | .bNiF32 rd rc offset => Sys2Proof.Machine.execBNiF32 rd rc offset s
  | .bNvF32 rd rc offset => Sys2Proof.Machine.execBNvF32 rd rc offset s
  | .bVF32 rd rc offset => Sys2Proof.Machine.execBVF32 rd rc offset s
  | .bDown rd rc rb => Sys2Proof.Machine.execBDown rd rc rb s
  | .bGate rd rc rb => Sys2Proof.Machine.execBGate rd rc rb s
  | .bHalt rd rc rb => Sys2Proof.Machine.execBHalt rd rc rb s
  | .bHint rd count simm => Sys2Proof.Machine.execBHint rd count simm s
  | .bHintI simm count offset => Sys2Proof.Machine.execBHintI simm count offset s
  | .bI offset => Sys2Proof.Machine.execBI offset s
  | .bLinkI offset => Sys2Proof.Machine.execBLinkI offset s
  | .bLink rd rc rb => Sys2Proof.Machine.execBLink rd rc rb s
  | .sDCS64AB rd rc rb => Sys2Proof.Machine.execSDCS64AB rd rc rb s
  | .sDCS64AL rd rc rb => Sys2Proof.Machine.execSDCS64AL rd rc rb s
  | .sASI64AB rd rc offset => Sys2Proof.Machine.execSASI64AB rd rc offset s
  | .sASI64AL rd rc offset => Sys2Proof.Machine.execSASI64AL rd rc offset s
  | .sCSI64AB rd rc offset => Sys2Proof.Machine.execSCSI64AB rd rc offset s
  | .sCSI64AL rd rc offset => Sys2Proof.Machine.execSCSI64AL rd rc offset s
  | .sMSI64AB rd rc offset => Sys2Proof.Machine.execSMSI64AB rd rc offset s
  | .sMSI64AL rd rc offset => Sys2Proof.Machine.execSMSI64AL rd rc offset s
  | .sAS64AB rd rc rb => Sys2Proof.Machine.execSAS64AB rd rc rb s
  | .sAS64AL rd rc rb => Sys2Proof.Machine.execSAS64AL rd rc rb s
  | .sCS64AB rd rc rb => Sys2Proof.Machine.execSCS64AB rd rc rb s
  | .sCS64AL rd rc rb => Sys2Proof.Machine.execSCS64AL rd rc rb s
  | .sMS64AB rd rc rb => Sys2Proof.Machine.execSMS64AB rd rc rb s
  | .sMS64AL rd rc rb => Sys2Proof.Machine.execSMS64AL rd rc rb s
  | .gAddH8C rd rc rb => Sys2Proof.Machine.execGAddH8C rd rc rb s
  | .gAddH8F rd rc rb => Sys2Proof.Machine.execGAddH8F rd rc rb s
  | .gAddH8N rd rc rb => Sys2Proof.Machine.execGAddH8N rd rc rb s
  | .gAddH8Z rd rc rb => Sys2Proof.Machine.execGAddH8Z rd rc rb s
  | .gAddH16C rd rc rb => Sys2Proof.Machine.execGAddH16C rd rc rb s
  | .gAddH16F rd rc rb => Sys2Proof.Machine.execGAddH16F rd rc rb s
  | .gAddH16N rd rc rb => Sys2Proof.Machine.execGAddH16N rd rc rb s
  | .gAddH16Z rd rc rb => Sys2Proof.Machine.execGAddH16Z rd rc rb s
  | .gAddH32C rd rc rb => Sys2Proof.Machine.execGAddH32C rd rc rb s
  | .gAddH32F rd rc rb => Sys2Proof.Machine.execGAddH32F rd rc rb s
  | .gAddH32N rd rc rb => Sys2Proof.Machine.execGAddH32N rd rc rb s
  | .gAddH32Z rd rc rb => Sys2Proof.Machine.execGAddH32Z rd rc rb s
  | .gAddH64C rd rc rb => Sys2Proof.Machine.execGAddH64C rd rc rb s
  | .gAddH64F rd rc rb => Sys2Proof.Machine.execGAddH64F rd rc rb s
  | .gAddH64N rd rc rb => Sys2Proof.Machine.execGAddH64N rd rc rb s
  | .gAddH64Z rd rc rb => Sys2Proof.Machine.execGAddH64Z rd rc rb s
  | .gAddH128C rd rc rb => Sys2Proof.Machine.execGAddH128C rd rc rb s
  | .gAddH128F rd rc rb => Sys2Proof.Machine.execGAddH128F rd rc rb s
  | .gAddH128N rd rc rb => Sys2Proof.Machine.execGAddH128N rd rc rb s
  | .gAddH128Z rd rc rb => Sys2Proof.Machine.execGAddH128Z rd rc rb s
  | .gAddHU8C rd rc rb => Sys2Proof.Machine.execGAddHU8C rd rc rb s
  | .gAddHU8F rd rc rb => Sys2Proof.Machine.execGAddHU8F rd rc rb s
  | .gAddHU8N rd rc rb => Sys2Proof.Machine.execGAddHU8N rd rc rb s
  | .gAddHU16C rd rc rb => Sys2Proof.Machine.execGAddHU16C rd rc rb s
  | .gAddHU16F rd rc rb => Sys2Proof.Machine.execGAddHU16F rd rc rb s
  | .gAddHU16N rd rc rb => Sys2Proof.Machine.execGAddHU16N rd rc rb s
  | .gAddHU32C rd rc rb => Sys2Proof.Machine.execGAddHU32C rd rc rb s
  | .gAddHU32F rd rc rb => Sys2Proof.Machine.execGAddHU32F rd rc rb s
  | .gAddHU32N rd rc rb => Sys2Proof.Machine.execGAddHU32N rd rc rb s
  | .gAddHU64C rd rc rb => Sys2Proof.Machine.execGAddHU64C rd rc rb s
  | .gAddHU64F rd rc rb => Sys2Proof.Machine.execGAddHU64F rd rc rb s
  | .gAddHU64N rd rc rb => Sys2Proof.Machine.execGAddHU64N rd rc rb s
  | .gAddHU128C rd rc rb => Sys2Proof.Machine.execGAddHU128C rd rc rb s
  | .gAddHU128F rd rc rb => Sys2Proof.Machine.execGAddHU128F rd rc rb s
  | .gAddHU128N rd rc rb => Sys2Proof.Machine.execGAddHU128N rd rc rb s
  | .gCopyI16 sign rd imm => Sys2Proof.Machine.execGCopyI16 sign rd imm s
  | .gCopyI32 sign rd imm => Sys2Proof.Machine.execGCopyI32 sign rd imm s
  | .gCopyI64 sign rd imm => Sys2Proof.Machine.execGCopyI64 sign rd imm s
  | .gCopyI128 sign rd imm => Sys2Proof.Machine.execGCopyI128 sign rd imm s
  | .gAaa8 rd rc rb => Sys2Proof.Machine.execGAaa8 rd rc rb s
  | .gAaa16 rd rc rb => Sys2Proof.Machine.execGAaa16 rd rc rb s
  | .gAaa32 rd rc rb => Sys2Proof.Machine.execGAaa32 rd rc rb s
  | .gAaa64 rd rc rb => Sys2Proof.Machine.execGAaa64 rd rc rb s
  | .gAaa128 rd rc rb => Sys2Proof.Machine.execGAaa128 rd rc rb s
  | .gAsa8 rd rc rb => Sys2Proof.Machine.execGAsa8 rd rc rb s
  | .gAsa16 rd rc rb => Sys2Proof.Machine.execGAsa16 rd rc rb s
  | .gAsa32 rd rc rb => Sys2Proof.Machine.execGAsa32 rd rc rb s
  | .gAsa64 rd rc rb => Sys2Proof.Machine.execGAsa64 rd rc rb s
  | .gAsa128 rd rc rb => Sys2Proof.Machine.execGAsa128 rd rc rb s
  | .gShlIAdd8 rd rc rb amount => Sys2Proof.Machine.execGShlIAdd8 rd rc rb amount s
  | .gShlIAdd16 rd rc rb amount => Sys2Proof.Machine.execGShlIAdd16 rd rc rb amount s
  | .gShlIAdd32 rd rc rb amount => Sys2Proof.Machine.execGShlIAdd32 rd rc rb amount s
  | .gShlIAdd64 rd rc rb amount => Sys2Proof.Machine.execGShlIAdd64 rd rc rb amount s
  | .gShlIAdd128 rd rc rb amount => Sys2Proof.Machine.execGShlIAdd128 rd rc rb amount s
  | .gShlISub8 rd rc rb amount => Sys2Proof.Machine.execGShlISub8 rd rc rb amount s
  | .gShlISub16 rd rc rb amount => Sys2Proof.Machine.execGShlISub16 rd rc rb amount s
  | .gShlISub32 rd rc rb amount => Sys2Proof.Machine.execGShlISub32 rd rc rb amount s
  | .gShlISub64 rd rc rb amount => Sys2Proof.Machine.execGShlISub64 rd rc rb amount s
  | .gShlISub128 rd rc rb amount => Sys2Proof.Machine.execGShlISub128 rd rc rb amount s
  | .gAddI16 rd rc imm => Sys2Proof.Machine.execGAddI16 rd rc imm s
  | .gAddI16O rd rc imm => Sys2Proof.Machine.execGAddI16O rd rc imm s
  | .gAddI32 rd rc imm => Sys2Proof.Machine.execGAddI32 rd rc imm s
  | .gAddI32O rd rc imm => Sys2Proof.Machine.execGAddI32O rd rc imm s
  | .gAddI64 rd rc imm => Sys2Proof.Machine.execGAddI64 rd rc imm s
  | .gAddI64O rd rc imm => Sys2Proof.Machine.execGAddI64O rd rc imm s
  | .gAddI128 rd rc imm => Sys2Proof.Machine.execGAddI128 rd rc imm s
  | .gAddI128O rd rc imm => Sys2Proof.Machine.execGAddI128O rd rc imm s
  | .gAddIU16O rd rc imm => Sys2Proof.Machine.execGAddIU16O rd rc imm s
  | .gAddIU32O rd rc imm => Sys2Proof.Machine.execGAddIU32O rd rc imm s
  | .gAddIU64O rd rc imm => Sys2Proof.Machine.execGAddIU64O rd rc imm s
  | .gAddIU128O rd rc imm => Sys2Proof.Machine.execGAddIU128O rd rc imm s
  | .gAndI16 rd rc imm => Sys2Proof.Machine.execGAndI16 rd rc imm s
  | .gAndI32 rd rc imm => Sys2Proof.Machine.execGAndI32 rd rc imm s
  | .gAndI64 rd rc imm => Sys2Proof.Machine.execGAndI64 rd rc imm s
  | .gAndI128 rd rc imm => Sys2Proof.Machine.execGAndI128 rd rc imm s
  | .gNandI16 rd rc imm => Sys2Proof.Machine.execGNandI16 rd rc imm s
  | .gNandI32 rd rc imm => Sys2Proof.Machine.execGNandI32 rd rc imm s
  | .gNandI64 rd rc imm => Sys2Proof.Machine.execGNandI64 rd rc imm s
  | .gNandI128 rd rc imm => Sys2Proof.Machine.execGNandI128 rd rc imm s
  | .gNorI16 rd rc imm => Sys2Proof.Machine.execGNorI16 rd rc imm s
  | .gNorI32 rd rc imm => Sys2Proof.Machine.execGNorI32 rd rc imm s
  | .gNorI64 rd rc imm => Sys2Proof.Machine.execGNorI64 rd rc imm s
  | .gNorI128 rd rc imm => Sys2Proof.Machine.execGNorI128 rd rc imm s
  | .gOrI16 rd rc imm => Sys2Proof.Machine.execGOrI16 rd rc imm s
  | .gOrI32 rd rc imm => Sys2Proof.Machine.execGOrI32 rd rc imm s
  | .gOrI64 rd rc imm => Sys2Proof.Machine.execGOrI64 rd rc imm s
  | .gOrI128 rd rc imm => Sys2Proof.Machine.execGOrI128 rd rc imm s
  | .gXorI16 rd rc imm => Sys2Proof.Machine.execGXorI16 rd rc imm s
  | .gXorI32 rd rc imm => Sys2Proof.Machine.execGXorI32 rd rc imm s
  | .gXorI64 rd rc imm => Sys2Proof.Machine.execGXorI64 rd rc imm s
  | .gXorI128 rd rc imm => Sys2Proof.Machine.execGXorI128 rd rc imm s
  | .gSetAndEI16 rd rc imm => Sys2Proof.Machine.execGSetAndEI16 rd rc imm s
  | .gSetAndEI32 rd rc imm => Sys2Proof.Machine.execGSetAndEI32 rd rc imm s
  | .gSetAndEI64 rd rc imm => Sys2Proof.Machine.execGSetAndEI64 rd rc imm s
  | .gSetAndEI128 rd rc imm => Sys2Proof.Machine.execGSetAndEI128 rd rc imm s
  | .gSetAndNeI16 rd rc imm => Sys2Proof.Machine.execGSetAndNeI16 rd rc imm s
  | .gSetAndNeI32 rd rc imm => Sys2Proof.Machine.execGSetAndNeI32 rd rc imm s
  | .gSetAndNeI64 rd rc imm => Sys2Proof.Machine.execGSetAndNeI64 rd rc imm s
  | .gSetAndNeI128 rd rc imm => Sys2Proof.Machine.execGSetAndNeI128 rd rc imm s
  | .gSetEI16 rd rc imm => Sys2Proof.Machine.execGSetEI16 rd rc imm s
  | .gSetEI32 rd rc imm => Sys2Proof.Machine.execGSetEI32 rd rc imm s
  | .gSetEI64 rd rc imm => Sys2Proof.Machine.execGSetEI64 rd rc imm s
  | .gSetEI128 rd rc imm => Sys2Proof.Machine.execGSetEI128 rd rc imm s
  | .gSetGeI16 rd rc imm => Sys2Proof.Machine.execGSetGeI16 rd rc imm s
  | .gSetGeI32 rd rc imm => Sys2Proof.Machine.execGSetGeI32 rd rc imm s
  | .gSetGeI64 rd rc imm => Sys2Proof.Machine.execGSetGeI64 rd rc imm s
  | .gSetGeI128 rd rc imm => Sys2Proof.Machine.execGSetGeI128 rd rc imm s
  | .gSetGeIU16 rd rc imm => Sys2Proof.Machine.execGSetGeIU16 rd rc imm s
  | .gSetGeIU32 rd rc imm => Sys2Proof.Machine.execGSetGeIU32 rd rc imm s
  | .gSetGeIU64 rd rc imm => Sys2Proof.Machine.execGSetGeIU64 rd rc imm s
  | .gSetGeIU128 rd rc imm => Sys2Proof.Machine.execGSetGeIU128 rd rc imm s
  | .gSetLI16 rd rc imm => Sys2Proof.Machine.execGSetLI16 rd rc imm s
  | .gSetLI32 rd rc imm => Sys2Proof.Machine.execGSetLI32 rd rc imm s
  | .gSetLI64 rd rc imm => Sys2Proof.Machine.execGSetLI64 rd rc imm s
  | .gSetLI128 rd rc imm => Sys2Proof.Machine.execGSetLI128 rd rc imm s
  | .gSetLIU16 rd rc imm => Sys2Proof.Machine.execGSetLIU16 rd rc imm s
  | .gSetLIU32 rd rc imm => Sys2Proof.Machine.execGSetLIU32 rd rc imm s
  | .gSetLIU64 rd rc imm => Sys2Proof.Machine.execGSetLIU64 rd rc imm s
  | .gSetLIU128 rd rc imm => Sys2Proof.Machine.execGSetLIU128 rd rc imm s
  | .gSetNeI16 rd rc imm => Sys2Proof.Machine.execGSetNeI16 rd rc imm s
  | .gSetNeI32 rd rc imm => Sys2Proof.Machine.execGSetNeI32 rd rc imm s
  | .gSetNeI64 rd rc imm => Sys2Proof.Machine.execGSetNeI64 rd rc imm s
  | .gSetNeI128 rd rc imm => Sys2Proof.Machine.execGSetNeI128 rd rc imm s
  | .gSubI16 rd rc imm => Sys2Proof.Machine.execGSubI16 rd rc imm s
  | .gSubI16O rd rc imm => Sys2Proof.Machine.execGSubI16O rd rc imm s
  | .gSubI32 rd rc imm => Sys2Proof.Machine.execGSubI32 rd rc imm s
  | .gSubI32O rd rc imm => Sys2Proof.Machine.execGSubI32O rd rc imm s
  | .gSubI64 rd rc imm => Sys2Proof.Machine.execGSubI64 rd rc imm s
  | .gSubI64O rd rc imm => Sys2Proof.Machine.execGSubI64O rd rc imm s
  | .gSubI128 rd rc imm => Sys2Proof.Machine.execGSubI128 rd rc imm s
  | .gSubI128O rd rc imm => Sys2Proof.Machine.execGSubI128O rd rc imm s
  | .gSubIU16O rd rc imm => Sys2Proof.Machine.execGSubIU16O rd rc imm s
  | .gSubIU32O rd rc imm => Sys2Proof.Machine.execGSubIU32O rd rc imm s
  | .gSubIU64O rd rc imm => Sys2Proof.Machine.execGSubIU64O rd rc imm s
  | .gSubIU128O rd rc imm => Sys2Proof.Machine.execGSubIU128O rd rc imm s

end Sys2Proof.Machine
end

