-- ==== Sys2Proof/Machine/Native.lean ====
section
/-! DEFINITION. What an instruction word does, and native code for it.  `runWord` is the definition: decode the word, then
`exec`.  Lean's runtime cannot build a constructor of `Instr` past the 244th, so `runWord` has no native code of its
own; `nativeRunWord`, which passes a word's fields straight to the meaning, is proved equal to it and is what compiled
code runs. -/

namespace Sys2Proof.Machine

open Sys2Proof

/-- Run what follows if the registers named are among the `NREG` of the machine; a word that names another is refused
(10_state.md rule R41; notes/assumptions/23.md). -/
def State.withRegisters (s : State) (rs : List Reg) (w : Word) (k : State → Result) : Result :=
  if s.hasRegisters rs then k s else .refused (.missingRegister w)

/-- What a decoded word does: the instruction's meaning; "Reserved Instruction" for a reserved encoding (30_encoding.md
rule R160); a refusal for a word no instruction has (30_encoding.md rule R161). -/
def runDecoded (d : Decoded) (w : Word) (s : State) : Result :=
  match d with
  | .instr i => s.withRegisters i.registers w (exec i)
  | .reserved => s.raiseExn .reservedInstruction
  | .unassigned => .refused (.unassignedWord w)

/-- What an instruction word does: it is decoded under the parameter `OpcodeMap` and run. -/
noncomputable def runWord (w : Word) (s : State) : Result := runDecoded (decodeWith s.params.opcodeMap w) w s

/-- An encoding's mask and what a word that matches it does. -/
abbrev NativeRow := Word × (Word → State → Result)

/-- The field of a word whose lowest bit is bit `lo`, as a register. -/
abbrev regOf (w : Word) (lo : Nat) : Reg := fieldOf w lo 6

/-- A row of format RRR or RRR-rev. -/
def nr3 (f : Reg → Reg → Reg → State → Result) : NativeRow :=
  (0xFF00003F#32, fun w s =>
    s.withRegisters [regOf w 18, regOf w 12, regOf w 6] w (f (regOf w 18) (regOf w 12) (regOf w 6)))

/-- A row of format BR, with the registers that its fields name. -/
def nbr (rs : Reg → Reg → Reg → List Reg) (f : Reg → Reg → Reg → State → Result) : NativeRow :=
  (0xFF00003F#32, fun w s =>
    s.withRegisters (rs (regOf w 18) (regOf w 12) (regOf w 6)) w (f (regOf w 18) (regOf w 12) (regOf w 6)))

/-- The registers of B, B.BARRIER and B.DOWN (43_branch.md rules R510, R521 and R555). -/
def downNames (rd rc rb : Reg) : List Reg := registersIf (rc = 0 ∧ rb = 0) [rd]

/-- The registers of B.BACK (43_branch.md rule R520). -/
def backNames (rd rc rb : Reg) : List Reg := registersIf (rd = 0 ∧ rc = 0 ∧ rb = 0) [0]

/-- The registers of B.HALT (43_branch.md rule R565). -/
def haltNames (_ _ _ : Reg) : List Reg := []

/-- The registers of B.GATE (43_branch.md rule R560). -/
def gateNames (rd rc rb : Reg) : List Reg := registersIf (rd = 0 ∧ rc = 1) [0, 1, rb]

/-- The registers of B.LINK (43_branch.md rule R576). -/
def linkNames (rd rc rb : Reg) : List Reg := registersIf (rb = 0) [rd, rc]

/-- A row of format SHIFT. -/
def nshift (f : Reg → Reg → BitVec 6 → State → Result) : NativeRow :=
  (0xFF00003F#32, fun w s =>
    s.withRegisters [regOf w 18, regOf w 12] w (f (regOf w 18) (regOf w 12) (fieldOf w 6 6)))

/-- A row of format HINT. -/
def nhint (f : Reg → BitVec 6 → BitVec 6 → State → Result) : NativeRow :=
  (0xFF00003F#32, fun w s =>
    s.withRegisters [regOf w 18] w (f (regOf w 18) (fieldOf w 12 6) (fieldOf w 6 6)))

/-- A reserved row of format RRR. -/
def nr3Reserved : NativeRow := (0xFF00003F#32, fun _ s => s.raiseExn .reservedInstruction)

/-- A row of format RRRR. -/
def nr4 (f : Reg → Reg → Reg → Reg → State → Result) : NativeRow :=
  (0xFF000000#32, fun w s =>
    s.withRegisters [regOf w 18, regOf w 12, regOf w 6, regOf w 0] w
      (f (regOf w 18) (regOf w 12) (regOf w 6) (regOf w 0)))

/-- A row of format COM. -/
def ncom (f : Reg → Reg → State → Result) : NativeRow :=
  (0xFF000FFF#32, fun w s => s.withRegisters [regOf w 18, regOf w 12] w (f (regOf w 18) (regOf w 12)))

/-- A row of format RRI, RRI-rev or BRC. -/
def nri12 (f : Reg → Reg → BitVec 12 → State → Result) : NativeRow :=
  (0xFF000000#32, fun w s =>
    s.withRegisters [regOf w 18, regOf w 12] w (f (regOf w 18) (regOf w 12) (fieldOf w 0 12)))

/-- A row of format HINTI. -/
def nhintI (f : BitVec 6 → BitVec 6 → BitVec 12 → State → Result) : NativeRow :=
  (0xFF000000#32, fun w s => s.withRegisters [] w (f (fieldOf w 18 6) (fieldOf w 12 6) (fieldOf w 0 12)))

/-- A row of format RI18. -/
def nri18 (f : Reg → BitVec 18 → State → Result) : NativeRow :=
  (0xFF000000#32, fun w s => s.withRegisters [regOf w 18] w (f (regOf w 18) (fieldOf w 0 18)))

/-- A row of format I24 or RES, with the registers the instruction names without a field. -/
def ni24 (rs : List Reg) (f : BitVec 24 → State → Result) : NativeRow :=
  (0xFF000000#32, fun w s => s.withRegisters rs w (f (fieldOf w 0 24)))

/-- A row of format SHADD. -/
def nshadd (f : Reg → Reg → Reg → Nat → State → Result) : NativeRow :=
  (0xFF00003C#32, fun w s =>
    s.withRegisters [regOf w 18, regOf w 12, regOf w 6] w
      (f (regOf w 18) (regOf w 12) (regOf w 6) ((fieldOf w 0 2).toNat + 1)))

/-- A row of format GI or GI-rev. -/
def ngi (f : Reg → Reg → BitVec 10 → State → Result) : NativeRow :=
  (0xFF000C00#32, fun w s =>
    s.withRegisters [regOf w 18, regOf w 12] w (f (regOf w 18) (regOf w 12) (fieldOf w 0 10)))

/-- The row of G.COPY.I.16, which is reserved when its sign bit is 1. -/
def ngcopy16 (f : BitVec 1 → Reg → BitVec 16 → State → Result) : NativeRow :=
  (0xFE030000#32, fun w s =>
    s.withRegisters (registersIf (fieldOf w 24 1 = 0) [regOf w 18]) w
      (f (fieldOf w 24 1) (regOf w 18) (fieldOf w 0 16)))

/-- A row of format GCOPYI. -/
def ngcopy (f : BitVec 1 → Reg → BitVec 16 → State → Result) : NativeRow :=
  (0xFE030000#32, fun w s =>
    s.withRegisters [regOf w 18] w (f (fieldOf w 24 1) (regOf w 18) (fieldOf w 0 16)))

/-- The native rows of 40_load.md. -/
def loadNative : List NativeRow :=
  [nr3 execL8, nr3 execL16B, nr3 execL16AB, nr3 execL16L, nr3 execL16AL, nr3 execL32B, nr3 execL32AB, nr3 execL32L,
   nr3 execL32AL, nr3 execL64B, nr3 execL64AB, nr3 execL64L, nr3 execL64AL, nr3 execL128B, nr3 execL128AB,
   nr3 execL128L, nr3 execL128AL, nr3 execLU8, nr3 execLU16B, nr3 execLU16AB, nr3 execLU16L, nr3 execLU16AL,
   nr3 execLU32B, nr3 execLU32AB, nr3 execLU32L, nr3 execLU32AL, nr3 execLU64B, nr3 execLU64AB, nr3 execLU64L,
   nr3 execLU64AL, nri12 execLI8, nri12 execLI16AB, nri12 execLI16B, nri12 execLI16AL, nri12 execLI16L,
   nri12 execLI32AB, nri12 execLI32B, nri12 execLI32AL, nri12 execLI32L, nri12 execLI64AB, nri12 execLI64B,
   nri12 execLI64AL, nri12 execLI64L, nri12 execLI128AB, nri12 execLI128B, nri12 execLI128AL, nri12 execLI128L,
   nri12 execLIU8, nri12 execLIU16AB, nri12 execLIU16B, nri12 execLIU16AL, nri12 execLIU16L, nri12 execLIU32AB,
   nri12 execLIU32B, nri12 execLIU32AL, nri12 execLIU32L, nri12 execLIU64AB, nri12 execLIU64B, nri12 execLIU64AL,
   nri12 execLIU64L]

/-- The native rows of 41_store.md. -/
def storeNative : List NativeRow :=
  [nr3 execS8, nr3 execS16B, nr3 execS16AB, nr3 execS16L, nr3 execS16AL, nr3 execS32B, nr3 execS32AB, nr3 execS32L,
   nr3 execS32AL, nr3 execS64B, nr3 execS64AB, nr3 execS64L, nr3 execS64AL, nr3 execS128B, nr3 execS128AB,
   nr3 execS128L, nr3 execS128AL, nr3 execSMux64AB, nr3 execSMux64AL, nri12 execSI8, nri12 execSI16AB,
   nri12 execSI16B, nri12 execSI16AL, nri12 execSI16L, nri12 execSI32AB, nri12 execSI32B, nri12 execSI32AL,
   nri12 execSI32L, nri12 execSI64AB, nri12 execSI64B, nri12 execSI64AL, nri12 execSI64L, nri12 execSI128AB,
   nri12 execSI128B, nri12 execSI128AL, nri12 execSI128L, nri12 execSMuxi64AB, nri12 execSMuxi64AL]

/-- The native rows of 42_address.md. -/
def addressNative : List NativeRow :=
  [ni24 [] execARes, nr3 execAAdd, nr3 execAAddO, nr3 execAAddUO, nr3 execAAnd, nr3 execAAndn, nr3 execANand,
   nr3 execANor, nr3 execAOr, nr3 execAOrn, nr3 execAXnor, nr3 execAXor, ncom execAComAndE, ncom execAComAndNe,
   ncom execAComE, ncom execAComGe, ncom execAComGeU, ncom execAComL, ncom execAComLU, ncom execAComNe,
   nri18 execACopyI, nri12 execAAddI, nri12 execAAddIO, nri12 execAAddIUO, nri12 execAAndI, nri12 execANandI,
   nri12 execANorI, nri12 execAOrI, nri12 execAXorI, nri12 execASetAndEI, nri12 execASetAndNeI, nri12 execASetEI,
   nri12 execASetGeI, nri12 execASetLI, nri12 execASetNeI, nri12 execASetGeIU, nri12 execASetLIU, nri12 execASubI,
   nri12 execASubIO, nri12 execASubIUO, nr3 execASetAndE, nr3 execASetAndNe, nr3 execASetE, nr3 execASetGe,
   nr3 execASetGeU, nr3 execASetL, nr3 execASetLU, nr3 execASetNe, nr3 execASub, nr3 execASubO, nr3 execASubUO,
   nshadd execAShlIAdd, nshadd execAShlISub, nshift execAShlI, nshift execAShlIO, nshift execAShlIUO,
   nshift execAShrI, nshift execAShrIU, nr4 execAMux]

/-- The native rows of 43_branch.md. -/
def branchNative : List NativeRow :=
  [nbr downNames execB, nbr backNames execBBack, nbr downNames execBBarrier, nri12 execBAndE, nri12 execBAndNe,
   nri12 execBE, nri12 execBGe, nri12 execBL, nri12 execBNe, nri12 execBGeU, nri12 execBLU, nri12 execBEF16,
   nri12 execBEF32, nri12 execBEF64, nri12 execBEF128, nri12 execBGeF16, nri12 execBGeF32, nri12 execBGeF64,
   nri12 execBGeF128, nri12 execBLF16, nri12 execBLF32, nri12 execBLF64, nri12 execBLF128, nri12 execBLgF16,
   nri12 execBLgF32, nri12 execBLgF64, nri12 execBLgF128, nri12 execBIF32, nri12 execBNiF32, nri12 execBNvF32,
   nri12 execBVF32, nbr downNames execBDown, nbr gateNames execBGate, nbr haltNames execBHalt, nhint execBHint,
   nhintI execBHintI, ni24 [] execBI, ni24 [0] execBLinkI, nbr linkNames execBLink]

/-- The native rows of 44_store_atomic.md. -/
def storeAtomicNative : List NativeRow :=
  [nr3 execSDCS64AB, nr3 execSDCS64AL, nri12 execSASI64AB, nri12 execSASI64AL, nri12 execSCSI64AB,
   nri12 execSCSI64AL, nri12 execSMSI64AB, nri12 execSMSI64AL, nr3 execSAS64AB, nr3 execSAS64AL, nr3 execSCS64AB,
   nr3 execSCS64AL, nr3 execSMS64AB, nr3 execSMS64AL]

/-- The native rows of 45_group_arith.md. -/
def groupArithNative : List NativeRow :=
  [nr3 execGAddH8C, nr3 execGAddH8F, nr3 execGAddH8N, nr3 execGAddH8Z, nr3 execGAddH16C, nr3 execGAddH16F,
   nr3 execGAddH16N, nr3 execGAddH16Z, nr3 execGAddH32C, nr3 execGAddH32F, nr3 execGAddH32N, nr3 execGAddH32Z,
   nr3 execGAddH64C, nr3 execGAddH64F, nr3 execGAddH64N, nr3 execGAddH64Z, nr3 execGAddH128C, nr3 execGAddH128F,
   nr3 execGAddH128N, nr3 execGAddH128Z, nr3 execGAddHU8C, nr3 execGAddHU8F, nr3 execGAddHU8N, nr3 execGAddHU16C,
   nr3 execGAddHU16F, nr3 execGAddHU16N, nr3 execGAddHU32C, nr3 execGAddHU32F, nr3 execGAddHU32N,
   nr3 execGAddHU64C, nr3 execGAddHU64F, nr3 execGAddHU64N, nr3 execGAddHU128C, nr3 execGAddHU128F,
   nr3 execGAddHU128N, ngcopy16 execGCopyI16, ngcopy execGCopyI32, ngcopy execGCopyI64, ngcopy execGCopyI128,
   nr3 execGAaa8, nr3 execGAaa16, nr3 execGAaa32, nr3 execGAaa64, nr3 execGAaa128, nr3 execGAsa8, nr3 execGAsa16,
   nr3 execGAsa32, nr3 execGAsa64, nr3 execGAsa128, nshadd execGShlIAdd8, nshadd execGShlIAdd16,
   nshadd execGShlIAdd32, nshadd execGShlIAdd64, nshadd execGShlIAdd128, nshadd execGShlISub8,
   nshadd execGShlISub16, nshadd execGShlISub32, nshadd execGShlISub64, nshadd execGShlISub128]

/-- The native rows of 46_group_immediate.md. -/
def groupImmediateNative : List NativeRow :=
  [ngi execGAddI16, ngi execGAddI16O, ngi execGAddI32, ngi execGAddI32O, ngi execGAddI64, ngi execGAddI64O,
   ngi execGAddI128, ngi execGAddI128O, ngi execGAddIU16O, ngi execGAddIU32O, ngi execGAddIU64O,
   ngi execGAddIU128O, ngi execGAndI16, ngi execGAndI32, ngi execGAndI64, ngi execGAndI128, ngi execGNandI16,
   ngi execGNandI32, ngi execGNandI64, ngi execGNandI128, ngi execGNorI16, ngi execGNorI32, ngi execGNorI64,
   ngi execGNorI128, ngi execGOrI16, ngi execGOrI32, ngi execGOrI64, ngi execGOrI128, ngi execGXorI16,
   ngi execGXorI32, ngi execGXorI64, ngi execGXorI128, ngi execGSetAndEI16, ngi execGSetAndEI32,
   ngi execGSetAndEI64, ngi execGSetAndEI128, ngi execGSetAndNeI16, ngi execGSetAndNeI32, ngi execGSetAndNeI64,
   ngi execGSetAndNeI128, ngi execGSetEI16, ngi execGSetEI32, ngi execGSetEI64, ngi execGSetEI128,
   ngi execGSetGeI16, ngi execGSetGeI32, ngi execGSetGeI64, ngi execGSetGeI128, ngi execGSetGeIU16,
   ngi execGSetGeIU32, ngi execGSetGeIU64, ngi execGSetGeIU128, ngi execGSetLI16, ngi execGSetLI32,
   ngi execGSetLI64, ngi execGSetLI128, ngi execGSetLIU16, ngi execGSetLIU32, ngi execGSetLIU64,
   ngi execGSetLIU128, ngi execGSetNeI16, ngi execGSetNeI32, ngi execGSetNeI64, ngi execGSetNeI128,
   ngi execGSubI16, ngi execGSubI16O, ngi execGSubI32, ngi execGSubI32O, ngi execGSubI64, ngi execGSubI64O,
   ngi execGSubI128, ngi execGSubI128O, ngi execGSubIU16O, ngi execGSubIU32O, ngi execGSubIU64O,
   ngi execGSubIU128O]

/-- The native rows in the order of `rows`. -/
def nativeRows : List NativeRow :=
  loadNative ++ storeNative ++ addressNative ++ branchNative ++ storeAtomicNative ++ groupArithNative ++ groupImmediateNative ++
  [nr3Reserved, nr3Reserved, nr3Reserved, nr3Reserved, nr3Reserved]

/-- The first native row the word matches. -/
def matchNative : List NativeRow → List Word → Word → State → Result
  | r :: rs, c :: cs, w, s => if w &&& r.1 = c then r.2 w s else matchNative rs cs w s
  | _, _, w, _ => .refused (.unassignedWord w)

/-- `runWord` without building an instruction. -/
def nativeRunWord (w : Word) (s : State) : Result :=
  matchNative nativeRows s.params.opcodeMap.codes w s


/-- A row of the decoder with the meaning of its instruction in its place. -/
def nativeOf (r : Row) : NativeRow := (r.mask, fun w s => runDecoded (r.build w) w s)

set_option maxRecDepth 8000 in
/-- Row by row. -/
theorem loadNative_eq : loadNative = loadRows.map nativeOf := rfl

set_option maxRecDepth 8000 in
/-- Row by row. -/
theorem storeNative_eq : storeNative = storeRows.map nativeOf := rfl

set_option maxRecDepth 8000 in
/-- Row by row. -/
theorem addressNative_eq : addressNative = addressRows.map nativeOf := rfl

set_option maxRecDepth 8000 in
/-- Row by row. -/
theorem branchNative_eq : branchNative = branchRows.map nativeOf := rfl

set_option maxRecDepth 8000 in
/-- Row by row. -/
theorem storeAtomicNative_eq : storeAtomicNative = storeAtomicRows.map nativeOf := rfl

set_option maxRecDepth 8000 in
/-- Row by row. -/
theorem groupArithNative_eq : groupArithNative = groupArithRows.map nativeOf := rfl

set_option maxRecDepth 8000 in
/-- Row by row. -/
theorem groupImmediateNative_eq : groupImmediateNative = groupImmediateRows.map nativeOf := rfl

/-- Row by row, the native table is the decoder's table with each instruction's meaning in its place. -/
theorem nativeRows_eq : nativeRows = rows.map nativeOf := by
  simp only [nativeRows, rows, List.map_append, loadNative_eq, storeNative_eq, addressNative_eq, branchNative_eq, storeAtomicNative_eq, groupArithNative_eq, groupImmediateNative_eq]
  rfl

/-- Matching the native table is matching the decoder's table, then running what is found. -/
theorem matchNative_map (rs : List Row) (cs : List Word) (w : Word) (s : State) :
    matchNative (rs.map nativeOf) cs w s =
      runDecoded (matchRows rs cs w) w s := by
  induction rs generalizing cs with
  | nil => cases cs <;> rfl
  | cons r rs ih =>
    cases cs with
    | nil => rfl
    | cons c cs =>
      simp only [List.map_cons, nativeOf, matchNative, matchRows]
      split
      · rfl
      · exact ih cs

/-- Compiled code runs `nativeRunWord` for `runWord`. -/
@[csimp] theorem runWord_eq_nativeRunWord : @runWord = @nativeRunWord := by
  funext w s
  simp only [runWord, nativeRunWord, decodeWith, nativeRows_eq, matchNative_map]

end Sys2Proof.Machine
end

