-- ==== Sys2Proof/Machine/Step.lean ====
section
/-! DEFINITION. One step of the machine: fetch, decode, execute (10_state.md rule R51, 60_exceptions.md rule R906). -/

namespace Sys2Proof.Machine

/-- One step.  A halted machine stays as it is (43_branch.md rule R566).  Otherwise the word at `pc` is fetched, whose
access exceptions come before any of execution (60_exceptions.md rule R906), and run. -/
def step (s : State) : Host.Outcome State Fault Refusal :=
  if s.halted then .next s
  else s.fetch.andThen s fun wt => runWord wt.1 wt.2

/-- The state with the instruction word `w` stored where the next step fetches: the launcher places a program
(70_reset_and_hazards.md rule R964; notes/assumptions/13.md).  A word has 32 bits, so `nbits` above 32 changes
nothing. -/
def State.withFetchWord (s : State) (nbits w : Nat) : State :=
  if nbits ≤ 32 then s.placeWord (BitVec.ofNat 32 w) else s

end Sys2Proof.Machine
end

