-- ==== Sys2Proof/Safety.lean ====
section
/-! DEFINITION. What counts as a safe state and a safe run, and the words in which statements speak of memory: where an
access lies, what value memory holds there, what a store leaves. -/

namespace Sys2Proof.Machine

/-- What every state of a run satisfies: memory is in its canonical form and lists none but the 2^32 physical addresses
(20_memory.md rule R107), and `pc` is a multiple of 4 (10_state.md rule R50). -/
def State.Inv (s : State) : Prop := s.mem.wf = true ∧ s.mem.inSpace = true ∧ s.pc.setWidth 2 = 0#2

/-- `t` is the state in which the run goes on after an exception raised in `s` (60_exceptions.md rule R907); there is none
under the default of `TrapEntry`. -/
def State.Trapped (s t : State) : Prop := ∃ e, s.raiseExn e = .next t

/-- A step that neither faults nor is refused. -/
def State.SafeStep (s : State) : Prop := ∃ t, step s = .next t

/-- `k` steps, each of them safe. -/
def State.SafeFor : Nat → State → Prop
  | 0, _ => True
  | k + 1, s => ∃ t, step s = .next t ∧ t.SafeFor k

/-- The `n` bytes from `va` on do not run past 2^64 - 1 and translate to the physical addresses `pa 0` to `pa (n - 1)` of
memory (20_memory.md rules R90, R106 and R107). -/
def State.Maps (s : State) (kind : AccessKind) (ba va : Octlet) (n : Nat) (pa : Nat → Nat) : Prop :=
  va.toNat + n ≤ 2 ^ 64 ∧
    ∀ k < n, s.translate kind ba (va + BitVec.ofNat 64 k) = .ok { transaction := .memory, address := pa k }

/-- The place, counted from the least significant, of the byte at the `k`-th address of an access of `n` bytes
(20_memory.md rule R94). -/
def significance (ord : ByteOrder) (n k : Nat) : Nat :=
  match ord with
  | .little => k
  | .big => n - 1 - k

/-- The byte of a value that lies at the `k`-th address of an access. -/
def byteAt (ord : ByteOrder) (size : Nat) (v : BitVec size) (k : Nat) : Byte :=
  v.extractLsb' (8 * significance ord (size / 8) k) 8

/-- Memory holds the value at the physical addresses `pa 0`, `pa 1`, … in the given order (20_memory.md rule R94). -/
def Memory.Holds (m : Memory) (pa : Nat → Nat) (ord : ByteOrder) (size : Nat) (v : BitVec size) : Prop :=
  ∀ k < size / 8, m.read (pa k) = byteAt ord size v k

/-- Memory `m'` is `m` with the value stored at the physical addresses `pa 0`, `pa 1`, … in that order: at each of them
the byte of the last store to it, at every other address what was there (20_memory.md rule R93). -/
def Memory.Stored (m m' : Memory) (pa : Nat → Nat) (ord : ByteOrder) (size : Nat) (v : BitVec size) : Prop :=
  (∀ k < size / 8, (∀ j < size / 8, k < j → pa j ≠ pa k) → m'.read (pa k) = byteAt ord size v k) ∧
    ∀ a, (∀ k < size / 8, pa k ≠ a) → m'.read a = m.read a

/-- No byte of an access could be observed old by a fetch (20_memory.md rule R110). -/
def State.Fresh (s : State) (n : Nat) (pa : Nat → Nat) : Prop := ∀ k < n, s.staleAt (pa k) = []

end Sys2Proof.Machine
end

