-- ==== Sys2Proof/Certificates/Slice0/Obligations.lean ====
section
/-! DEFINITION. The statements for the provers, and the words they are made of: what it is to write a register, to raise
an exception, to compare, to hold a floating-point number, written here from the spec once more and apart from the
machine's own operations. -/

namespace Sys2Proof.Claims

open Sys2Proof Sys2Proof.Machine

/-! ### What an instruction does to the state -/

/-- What is answered in `s` is the exception `e`: the run ends in `Fault(e, pc)` under the default of the parameter
`TrapEntry`, and otherwise goes on in the state of trap entry, which `Obligations.TrapEntry` describes
(60_exceptions.md rule R907). -/
def IsRaised (r : Result) (s : State) (e : Exn) : Prop :=
  (s.params.trapEntry = .final → r = .fault (.raised e s.pc)) ∧
    (s.params.trapEntry = .continues → r = .next (s.enterTrap e))

/-- The instruction raises the exception `e`. -/
def Raises (i : Instr) (s : State) (e : Exn) : Prop := IsRaised (exec i s) s e

/-- The instruction answers the state `t`, and not because it raised an exception. -/
def Completes (i : Instr) (s t : State) : Prop := exec i s = .next t ∧ ∀ e, ¬Raises i s e

/-- The state with another value of the parameter `TrapEntry`. -/
def withTrapEntry (s : State) (x : TrapEntry) : State := { s with params := { s.params with trapEntry := x } }

/-- Every register of the list is one of the `NREG` of the machine (10_state.md rule R41). -/
def HasRegisters (s : State) (rs : List Reg) : Prop := ∀ r ∈ rs, r.toNat < s.params.nreg

/-- The exception of the alignment and target tests. -/
def badAddress : Exn := .access .disallowedByVirtualAddress

/-- The instruction completes and does nothing but go on to `pc + 4`. -/
def GoesOn (i : Instr) (s : State) : Prop := exec i s = .next { s with pc := s.pc + 4#64 }

/-- The instruction completes by a branch to `t` and does nothing else. -/
def GoesTo (i : Instr) (s : State) (t : Octlet) : Prop := exec i s = .next { s with pc := t }

/-- The instruction completes: all 128 bits of `x[rd]` are `v`, the next instruction is the one at `pc + 4`, and
nothing else changes. -/
def Writes128 (i : Instr) (s : State) (rd : Reg) (v : Hexlet) : Prop :=
  exec i s = .next { s with regs := s.regs.set rd.toNat v rd.isLt, pc := s.pc + 4#64 }

/-- `u` is what a 64-bit write of `a` to `x[rd]` may leave in bits 127..64, as the parameter `RegWrite64Upper` says:
under `draw`, anything (10_state.md rule R45). -/
def UpperHalf (s : State) (rd : Reg) (a u : Octlet) : Prop :=
  match s.params.upperWrite with
  | .draw => True
  | .zero => u.toNat = 0
  | .sext => ∀ k < 64, u.getLsbD k = a.getLsbD 63
  | .preserve => ∀ k < 64, u.getLsbD k = (s.reg rd).getLsbD (64 + k)

/-- The instruction completes: bits 63..0 of `x[rd]` are `a`, bits 127..64 are as `RegWrite64Upper` says, the next
instruction is the one at `t`, the model's count of free values goes up by one, and nothing else changes. -/
def Links (i : Instr) (s : State) (rd : Reg) (a t : Octlet) : Prop :=
  ∃ u, UpperHalf s rd a u ∧
    exec i s = .next { s with regs := s.regs.set rd.toNat (u ++ a) rd.isLt, pc := t, draws := s.draws + 1 }

/-- The same with the instruction at `pc + 4` next. -/
def Writes64 (i : Instr) (s : State) (rd : Reg) (a : Octlet) : Prop := Links i s rd a (s.pc + 4#64)

/-- A checked 64-bit form whose exact result is `t`: it writes `t` if `lo ≤ t < hi`, and otherwise raises "Fixed-point
arithmetic" (42_address.md rule R402). -/
def Checked (i : Instr) (s : State) (rd : Reg) (lo hi t : Int) : Prop :=
  (lo ≤ t ∧ t < hi → Writes64 i s rd (BitVec.ofInt 64 t)) ∧ (¬(lo ≤ t ∧ t < hi) → Raises i s .fixedPointArithmetic)

/-! ### Memory accesses -/

/-- The displacement of a memory instruction: a register index or a 12-bit offset. -/
inductive Place where
  | indexed (rb : Reg)
  | offset (o : BitVec 12)

/-- The effective address, by the machine's own two functions (20_memory.md rules R81 and R82). -/
def Place.address (p : Place) (s : State) (rc : Reg) (size : Nat) : Octlet :=
  match p with
  | .indexed rb => s.indexedAddress rc rb size
  | .offset o => s.offsetAddress rc o size

/-- A load in its two forms, L.* and L.I.*. -/
structure LoadForm where
  indexed : Reg → Reg → Reg → Instr
  immediate : Reg → Reg → BitVec 12 → Instr
  signed : Bool
  aligned : Bool
  size : Nat
  order : ByteOrder

def LoadForm.instr (f : LoadForm) (rd rc : Reg) (p : Place) : Instr :=
  match p with
  | .indexed rb => f.indexed rd rc rb
  | .offset o => f.immediate rd rc o

/-- A store in its two forms, S.* and S.I.*; the multiplex and swap stores are all aligned and of size 64. -/
structure StoreForm where
  indexed : Reg → Reg → Reg → Instr
  immediate : Reg → Reg → BitVec 12 → Instr
  aligned : Bool
  size : Nat
  order : ByteOrder

def StoreForm.instr (f : StoreForm) (rd rc : Reg) (p : Place) : Instr :=
  match p with
  | .indexed rb => f.indexed rd rc rb
  | .offset o => f.immediate rd rc o

/-- The base register passes the alignment test of 20_memory.md rule R97. -/
def BaseAligned (s : State) (rc : Reg) (size : Nat) : Prop := (s.lo rc).toNat % (size / 8) = 0

/-- The access does not run past 2^64 - 1 and its first byte that does not translate raises `e`. -/
def TranslationRaises (s : State) (kind : AccessKind) (ba va : Octlet) (n : Nat) (e : AccessFault) : Prop :=
  va.toNat + n ≤ 2 ^ 64 ∧
    ∃ k < n, (∀ j < k, ∃ p, s.translate kind ba (va + BitVec.ofNat 64 j) = .ok p) ∧
      s.translate kind ba (va + BitVec.ofNat 64 k) = .raised e

/-- The access does not run past 2^64 - 1 and all its bytes translate, one of them to an I/O address. -/
def ReachesIO (s : State) (kind : AccessKind) (ba va : Octlet) (n : Nat) : Prop :=
  va.toNat + n ≤ 2 ^ 64 ∧ (∀ k < n, ∃ p, s.translate kind ba (va + BitVec.ofNat 64 k) = .ok p) ∧
    ∃ k < n, ∃ p, s.translate kind ba (va + BitVec.ofNat 64 k) = .ok p ∧ p.transaction = .io

/-- Memory of `t` is that of `s` with `v` stored at `pa 0`, `pa 1`, …, and a fetch may go on observing what a byte held
before, at the stored addresses only (20_memory.md rules R93 and R110). -/
def StoredAt (s t : State) (pa : Nat → Nat) (ord : ByteOrder) (size : Nat) (v : BitVec size) : Prop :=
  s.mem.Stored t.mem pa ord size v ∧
    (∀ k < size / 8, s.mem.read (pa k) ∈ t.staleAt (pa k)) ∧
    (∀ a, (∀ k < size / 8, pa k ≠ a) → t.staleAt a = s.staleAt a)

/-- The 60 loads (40_load.md). -/
def loadForms : List LoadForm :=
  [⟨.l8, .lI8, true, false, 8, .little⟩, ⟨.l16B, .lI16B, true, false, 16, .big⟩,
   ⟨.l16AB, .lI16AB, true, true, 16, .big⟩, ⟨.l16L, .lI16L, true, false, 16, .little⟩,
   ⟨.l16AL, .lI16AL, true, true, 16, .little⟩, ⟨.l32B, .lI32B, true, false, 32, .big⟩,
   ⟨.l32AB, .lI32AB, true, true, 32, .big⟩, ⟨.l32L, .lI32L, true, false, 32, .little⟩,
   ⟨.l32AL, .lI32AL, true, true, 32, .little⟩, ⟨.l64B, .lI64B, true, false, 64, .big⟩,
   ⟨.l64AB, .lI64AB, true, true, 64, .big⟩, ⟨.l64L, .lI64L, true, false, 64, .little⟩,
   ⟨.l64AL, .lI64AL, true, true, 64, .little⟩, ⟨.l128B, .lI128B, true, false, 128, .big⟩,
   ⟨.l128AB, .lI128AB, true, true, 128, .big⟩, ⟨.l128L, .lI128L, true, false, 128, .little⟩,
   ⟨.l128AL, .lI128AL, true, true, 128, .little⟩, ⟨.lU8, .lIU8, false, false, 8, .little⟩,
   ⟨.lU16B, .lIU16B, false, false, 16, .big⟩, ⟨.lU16AB, .lIU16AB, false, true, 16, .big⟩,
   ⟨.lU16L, .lIU16L, false, false, 16, .little⟩, ⟨.lU16AL, .lIU16AL, false, true, 16, .little⟩,
   ⟨.lU32B, .lIU32B, false, false, 32, .big⟩, ⟨.lU32AB, .lIU32AB, false, true, 32, .big⟩,
   ⟨.lU32L, .lIU32L, false, false, 32, .little⟩, ⟨.lU32AL, .lIU32AL, false, true, 32, .little⟩,
   ⟨.lU64B, .lIU64B, false, false, 64, .big⟩, ⟨.lU64AB, .lIU64AB, false, true, 64, .big⟩,
   ⟨.lU64L, .lIU64L, false, false, 64, .little⟩, ⟨.lU64AL, .lIU64AL, false, true, 64, .little⟩]

/-- The 34 plain stores (41_store.md rules R301 and R302). -/
def storeForms : List StoreForm :=
  [⟨.s8, .sI8, false, 8, .little⟩, ⟨.s16B, .sI16B, false, 16, .big⟩, ⟨.s16AB, .sI16AB, true, 16, .big⟩,
   ⟨.s16L, .sI16L, false, 16, .little⟩, ⟨.s16AL, .sI16AL, true, 16, .little⟩, ⟨.s32B, .sI32B, false, 32, .big⟩,
   ⟨.s32AB, .sI32AB, true, 32, .big⟩, ⟨.s32L, .sI32L, false, 32, .little⟩, ⟨.s32AL, .sI32AL, true, 32, .little⟩,
   ⟨.s64B, .sI64B, false, 64, .big⟩, ⟨.s64AB, .sI64AB, true, 64, .big⟩, ⟨.s64L, .sI64L, false, 64, .little⟩,
   ⟨.s64AL, .sI64AL, true, 64, .little⟩, ⟨.s128B, .sI128B, false, 128, .big⟩, ⟨.s128AB, .sI128AB, true, 128, .big⟩,
   ⟨.s128L, .sI128L, false, 128, .little⟩, ⟨.s128AL, .sI128AL, true, 128, .little⟩]

/-- The four multiplex stores (41_store.md rule R303). -/
def multiplexForms : List StoreForm :=
  [⟨.sMux64AB, .sMuxi64AB, true, 64, .big⟩, ⟨.sMux64AL, .sMuxi64AL, true, 64, .little⟩]

/-- The four add swaps (44_store_atomic.md rules R602 and R603). -/
def addSwapForms : List StoreForm :=
  [⟨.sAS64AB, .sASI64AB, true, 64, .big⟩, ⟨.sAS64AL, .sASI64AL, true, 64, .little⟩]

/-- The four compare swaps. -/
def compareSwapForms : List StoreForm :=
  [⟨.sCS64AB, .sCSI64AB, true, 64, .big⟩, ⟨.sCS64AL, .sCSI64AL, true, 64, .little⟩]

/-- The four multiplex swaps. -/
def multiplexSwapForms : List StoreForm :=
  [⟨.sMS64AB, .sMSI64AB, true, 64, .big⟩, ⟨.sMS64AL, .sMSI64AL, true, 64, .little⟩]

/-- The two double compare swaps (44_store_atomic.md rule R601). -/
def doubleSwapForms : List ((Reg → Reg → Reg → Instr) × ByteOrder) :=
  [(.sDCS64AB, .big), (.sDCS64AL, .little)]

/-- The register logic of 42_address.md, each with its effect on one bit of `rc` and of `rb`. -/
def addressLogicForms : List ((Reg → Reg → Reg → Instr) × (Bool → Bool → Bool)) :=
  [(.aAnd, fun c b => c && b), (.aAndn, fun c b => c && !b), (.aNand, fun c b => !(c && b)),
   (.aNor, fun c b => !(c || b)), (.aOr, fun c b => c || b), (.aOrn, fun c b => c || !b),
   (.aXnor, fun c b => !(xor c b)), (.aXor, fun c b => xor c b)]

/-- The immediate logic of 42_address.md, each with its effect on one bit of `rc` and of the immediate. -/
def addressLogicImmediateForms : List ((Reg → Reg → BitVec 12 → Instr) × (Bool → Bool → Bool)) :=
  [(.aAndI, fun c i => c && i), (.aNandI, fun c i => !(c && i)), (.aNorI, fun c i => !(c || i)),
   (.aOrI, fun c i => c || i), (.aXorI, fun c i => xor c i)]

/-- The eight A.COM. -/
def compareForms : List (Relation × (Reg → Reg → Instr)) :=
  [(.andE, .aComAndE), (.andNE, .aComAndNe), (.e, .aComE), (.ne, .aComNe), (.ge, .aComGe), (.l, .aComL),
   (.geU, .aComGeU), (.lU, .aComLU)]

/-- The eight A.SET of two registers. -/
def setForms : List (Relation × (Reg → Reg → Reg → Instr)) :=
  [(.andE, .aSetAndE), (.andNE, .aSetAndNe), (.e, .aSetE), (.ne, .aSetNe), (.ge, .aSetGe), (.l, .aSetL),
   (.geU, .aSetGeU), (.lU, .aSetLU)]

/-- The eight A.SET of an immediate and a register. -/
def setImmediateForms : List (Relation × (Reg → Reg → BitVec 12 → Instr)) :=
  [(.andE, .aSetAndEI), (.andNE, .aSetAndNeI), (.e, .aSetEI), (.ne, .aSetNeI), (.ge, .aSetGeI), (.l, .aSetLI),
   (.geU, .aSetGeIU), (.lU, .aSetLIU)]

/-- The eight integer conditional branches. -/
def branchForms : List (Relation × (Reg → Reg → BitVec 12 → Instr)) :=
  [(.andE, .bAndE), (.andNE, .bAndNe), (.e, .bE), (.ne, .bNe), (.ge, .bGe), (.l, .bL), (.geU, .bGeU), (.lU, .bLU)]

/-- The sixteen floating-point branches, with the bits of exponent and fraction of the format. -/
def floatForms : List (FpRelation × Nat × Nat × (Reg → Reg → BitVec 12 → Instr)) :=
  [(.e, 5, 10, .bEF16), (.e, 8, 23, .bEF32), (.e, 11, 52, .bEF64), (.e, 15, 112, .bEF128), (.ge, 5, 10, .bGeF16),
   (.ge, 8, 23, .bGeF32), (.ge, 11, 52, .bGeF64), (.ge, 15, 112, .bGeF128), (.l, 5, 10, .bLF16), (.l, 8, 23, .bLF32),
   (.l, 11, 52, .bLF64), (.l, 15, 112, .bLF128), (.lg, 5, 10, .bLgF16), (.lg, 8, 23, .bLgF32),
   (.lg, 11, 52, .bLgF64), (.lg, 15, 112, .bLgF128)]

/-- The twenty signed G.ADD.H. -/
noncomputable def addHalveForms : List (Nat × Rounding × (Reg → Reg → Reg → Instr)) :=
  [(8, .ceiling, .gAddH8C), (8, .floor, .gAddH8F), (8, .nearest, .gAddH8N), (8, .zero, .gAddH8Z),
   (16, .ceiling, .gAddH16C), (16, .floor, .gAddH16F), (16, .nearest, .gAddH16N), (16, .zero, .gAddH16Z),
   (32, .ceiling, .gAddH32C), (32, .floor, .gAddH32F), (32, .nearest, .gAddH32N), (32, .zero, .gAddH32Z),
   (64, .ceiling, .gAddH64C), (64, .floor, .gAddH64F), (64, .nearest, .gAddH64N), (64, .zero, .gAddH64Z),
   (128, .ceiling, .gAddH128C), (128, .floor, .gAddH128F), (128, .nearest, .gAddH128N), (128, .zero, .gAddH128Z)]

/-- The fifteen unsigned G.ADD.H.U. -/
noncomputable def addHalveUnsignedForms : List (Nat × Rounding × (Reg → Reg → Reg → Instr)) :=
  [(8, .ceiling, .gAddHU8C), (8, .floor, .gAddHU8F), (8, .nearest, .gAddHU8N), (16, .ceiling, .gAddHU16C),
   (16, .floor, .gAddHU16F), (16, .nearest, .gAddHU16N), (32, .ceiling, .gAddHU32C), (32, .floor, .gAddHU32F),
   (32, .nearest, .gAddHU32N), (64, .ceiling, .gAddHU64C), (64, .floor, .gAddHU64F), (64, .nearest, .gAddHU64N),
   (128, .ceiling, .gAddHU128C), (128, .floor, .gAddHU128F), (128, .nearest, .gAddHU128N)]

/-- The four G.COPY.I. -/
noncomputable def copyForms : List (Nat × (BitVec 1 → Reg → BitVec 16 → Instr)) :=
  [(16, .gCopyI16), (32, .gCopyI32), (64, .gCopyI64), (128, .gCopyI128)]

/-- G.AAA and G.ASA, with the exact result of a lane from those of `rd`, `rc` and `rb`. -/
noncomputable def inPlaceForms : List (Nat × (Int → Int → Int → Int) × (Reg → Reg → Reg → Instr)) :=
  [(8, fun d c b => d + c + b, .gAaa8), (16, fun d c b => d + c + b, .gAaa16), (32, fun d c b => d + c + b, .gAaa32),
   (64, fun d c b => d + c + b, .gAaa64), (128, fun d c b => d + c + b, .gAaa128),
   (8, fun d c b => d - c + b, .gAsa8), (16, fun d c b => d - c + b, .gAsa16), (32, fun d c b => d - c + b, .gAsa32),
   (64, fun d c b => d - c + b, .gAsa64), (128, fun d c b => d - c + b, .gAsa128)]

/-- G.SHL.I.ADD and G.SHL.I.SUB, with the exact result of a lane from that of `rc` and the shifted one of `rb`. -/
noncomputable def shiftAddForms : List (Nat × (Int → Int → Int) × (Reg → Reg → Reg → Nat → Instr)) :=
  [(8, fun c b => c + b, .gShlIAdd8), (16, fun c b => c + b, .gShlIAdd16), (32, fun c b => c + b, .gShlIAdd32),
   (64, fun c b => c + b, .gShlIAdd64), (128, fun c b => c + b, .gShlIAdd128), (8, fun c b => b - c, .gShlISub8),
   (16, fun c b => b - c, .gShlISub16), (32, fun c b => b - c, .gShlISub32), (64, fun c b => b - c, .gShlISub64),
   (128, fun c b => b - c, .gShlISub128)]

/-- G.ADD.I and G.SUB.I, with the exact result of a lane from that of `rc` and the immediate. -/
noncomputable def addImmediateForms : List (Nat × (Int → Int → Int) × (Reg → Reg → BitVec 10 → Instr)) :=
  [(16, fun c i => c + i, .gAddI16), (32, fun c i => c + i, .gAddI32), (64, fun c i => c + i, .gAddI64),
   (128, fun c i => c + i, .gAddI128), (16, fun c i => i - c, .gSubI16), (32, fun c i => i - c, .gSubI32),
   (64, fun c i => i - c, .gSubI64), (128, fun c i => i - c, .gSubI128)]

/-- The immediate logic of 46_group_immediate.md, with its effect on one bit of `rc` and of the immediate. -/
noncomputable def groupLogicForms : List (Nat × (Bool → Bool → Bool) × (Reg → Reg → BitVec 10 → Instr)) :=
  [(16, fun c i => c && i, .gAndI16), (32, fun c i => c && i, .gAndI32), (64, fun c i => c && i, .gAndI64),
   (128, fun c i => c && i, .gAndI128), (16, fun c i => !(c && i), .gNandI16), (32, fun c i => !(c && i), .gNandI32),
   (64, fun c i => !(c && i), .gNandI64), (128, fun c i => !(c && i), .gNandI128),
   (16, fun c i => !(c || i), .gNorI16), (32, fun c i => !(c || i), .gNorI32), (64, fun c i => !(c || i), .gNorI64),
   (128, fun c i => !(c || i), .gNorI128), (16, fun c i => c || i, .gOrI16), (32, fun c i => c || i, .gOrI32),
   (64, fun c i => c || i, .gOrI64), (128, fun c i => c || i, .gOrI128), (16, fun c i => xor c i, .gXorI16),
   (32, fun c i => xor c i, .gXorI32), (64, fun c i => xor c i, .gXorI64), (128, fun c i => xor c i, .gXorI128)]

/-- The 32 G.SET, each of an immediate and a register. -/
noncomputable def groupSetForms : List (Nat × Relation × (Reg → Reg → BitVec 10 → Instr)) :=
  [(16, .andE, .gSetAndEI16), (32, .andE, .gSetAndEI32), (64, .andE, .gSetAndEI64), (128, .andE, .gSetAndEI128),
   (16, .andNE, .gSetAndNeI16), (32, .andNE, .gSetAndNeI32), (64, .andNE, .gSetAndNeI64),
   (128, .andNE, .gSetAndNeI128), (16, .e, .gSetEI16), (32, .e, .gSetEI32), (64, .e, .gSetEI64),
   (128, .e, .gSetEI128), (16, .ne, .gSetNeI16), (32, .ne, .gSetNeI32), (64, .ne, .gSetNeI64),
   (128, .ne, .gSetNeI128), (16, .ge, .gSetGeI16), (32, .ge, .gSetGeI32), (64, .ge, .gSetGeI64),
   (128, .ge, .gSetGeI128), (16, .l, .gSetLI16), (32, .l, .gSetLI32), (64, .l, .gSetLI64), (128, .l, .gSetLI128),
   (16, .geU, .gSetGeIU16), (32, .geU, .gSetGeIU32), (64, .geU, .gSetGeIU64), (128, .geU, .gSetGeIU128),
   (16, .lU, .gSetLIU16), (32, .lU, .gSetLIU32), (64, .lU, .gSetLIU64), (128, .lU, .gSetLIU128)]

/-- The sixteen checked group forms: whether the lanes are signed, and the exact result of a lane. -/
noncomputable def groupCheckedForms : List (Nat × Bool × (Int → Int → Int) × (Reg → Reg → BitVec 10 → Instr)) :=
  [(16, true, fun c i => c + i, .gAddI16O), (32, true, fun c i => c + i, .gAddI32O),
   (64, true, fun c i => c + i, .gAddI64O), (128, true, fun c i => c + i, .gAddI128O),
   (16, false, fun c i => c + i, .gAddIU16O), (32, false, fun c i => c + i, .gAddIU32O),
   (64, false, fun c i => c + i, .gAddIU64O), (128, false, fun c i => c + i, .gAddIU128O),
   (16, true, fun c i => i - c, .gSubI16O), (32, true, fun c i => i - c, .gSubI32O),
   (64, true, fun c i => i - c, .gSubI64O), (128, true, fun c i => i - c, .gSubI128O),
   (16, false, fun c i => i - c, .gSubIU16O), (32, false, fun c i => i - c, .gSubIU32O),
   (64, false, fun c i => i - c, .gSubIU64O), (128, false, fun c i => i - c, .gSubIU128O)]

/-- `(d[127:64] and d[63:0]) or (a and not d[63:0])`, bit by bit (41_store.md rule R303). -/
def Multiplexes (d : Hexlet) (a m : Octlet) : Prop :=
  ∀ k < 64, m.getLsbD k = if d.getLsbD k then d.getLsbD (64 + k) else a.getLsbD k

/-! ### Comparisons -/

/-- The comparison of two different registers, or of a register and an immediate (42_address.md rules R422 to R429). -/
def Condition {n : Nat} (r : Relation) (x y : BitVec n) : Prop :=
  match r with
  | .andE => ∀ k < n, ¬(x.getLsbD k = true ∧ y.getLsbD k = true)
  | .andNE => ∃ k < n, x.getLsbD k = true ∧ y.getLsbD k = true
  | .e => ∀ k < n, x.getLsbD k = y.getLsbD k
  | .ne => ∃ k < n, x.getLsbD k ≠ y.getLsbD k
  | .ge => y.toInt ≤ x.toInt
  | .l => x.toInt < y.toInt
  | .geU => y.toNat ≤ x.toNat
  | .lU => x.toNat < y.toNat

/-- The comparison when both fields name one register, whose value is `y` (42_address.md rule R405). -/
def ConditionSame {n : Nat} (r : Relation) (y : BitVec n) : Prop :=
  match r with
  | .andE => y.toNat = 0
  | .andNE => y.toNat ≠ 0
  | .e => True
  | .ne => False
  | .ge => 0 ≤ y.toInt
  | .l => y.toInt < 0
  | .geU => y.toInt ≤ 0
  | .lU => 0 < y.toInt

/-- `W`, the parameter `AddrCompareWidth` (42_address.md rule R450). -/
def compareWidth (s : State) : Nat :=
  match s.params.compareWidth with
  | .w64 => 64
  | .w128 => 128

/-- The comparison of two registers on their low `W` bits, the left one first. -/
def Compares (s : State) (r : Relation) (left right : Reg) : Prop :=
  (left = right → ConditionSame r ((s.reg right).setWidth (compareWidth s))) ∧
    (left ≠ right →
      Condition r ((s.reg left).setWidth (compareWidth s)) ((s.reg right).setWidth (compareWidth s)))

/-! ### Branches -/

/-- `pc` plus a displacement counted in instructions, modulo 2^64 (30_encoding.md rules R144 and R145). -/
def branchTo {n : Nat} (s : State) (offset : BitVec n) : Octlet := BitVec.ofInt 64 (s.pc.toInt + 4 * offset.toInt)

/-- A conditional branch taken exactly when `c` holds (43_branch.md rule R504). -/
def TakenWhen (i : Instr) (s : State) (offset : BitVec 12) (c : Prop) : Prop :=
  (c → GoesTo i s (branchTo s offset)) ∧ (¬c → GoesOn i s)

/-- The exponent field of the low `1 + E + F` bits of `v`. -/
def expField (E F : Nat) (v : Hexlet) : Nat := v.toNat / 2 ^ F % 2 ^ E

/-- The fraction field. -/
def fracField (F : Nat) (v : Hexlet) : Nat := v.toNat % 2 ^ F

/-- The sign bit. -/
def signBit (E F : Nat) (v : Hexlet) : Bool := v.getLsbD (E + F)

/-- A NaN of the IEEE 754 format with `E` exponent bits and `F` fraction bits (notes/assumptions/12.md). -/
def FpNaN (E F : Nat) (v : Hexlet) : Prop := expField E F v = 2 ^ E - 1 ∧ fracField F v ≠ 0

/-- The magnitude of a number of that format, in units of its least subnormal; infinity is larger than every finite
one. -/
def fpMagnitude (E F : Nat) (v : Hexlet) : Nat :=
  if expField E F v = 0 then fracField F v else (2 ^ F + fracField F v) * 2 ^ (expField E F v - 1)

/-- The number itself, in the same units. -/
def fpValue (E F : Nat) (v : Hexlet) : Int :=
  if signBit E F v then -(fpMagnitude E F v : Int) else (fpMagnitude E F v : Int)

/-- The four floating-point conditions on two numbers neither of which is a NaN (43_branch.md rules R530 to R545). -/
def FpCondition (r : FpRelation) (x y : Int) : Prop :=
  match r with
  | .e => x = y
  | .ge => y ≤ x
  | .l => x < y
  | .lg => x < y ∨ y < x

/-- Element `k` (x, y, z, w) of a register as a single, in units of the least subnormal. -/
def elementValue (v : Hexlet) (k : Nat) : Int := fpValue 8 23 (v >>> (32 * k))

/-- Its magnitude. -/
def elementMagnitude (v : Hexlet) (k : Nat) : Int := fpMagnitude 8 23 (v >>> (32 * k))

/-- Its sign bit. -/
def elementSign (v : Hexlet) (k : Nat) : Bool := v.getLsbD (32 * k + 31)

/-- One of the four elements is a NaN. -/
def SomeNaN (v : Hexlet) : Prop := ∃ k < 4, FpNaN 8 23 (v >>> (32 * k))

/-- `less(z, f1)`, false when the constant `f1` is a NaN. -/
def BelowF1 (s : State) (z : Int) : Prop :=
  ¬FpNaN 8 23 (s.params.f1Const.setWidth 128) ∧ z < fpValue 8 23 (s.params.f1Const.setWidth 128)

/-- `less(f1, z)`, false when the constant `f1` is a NaN. -/
def AboveF1 (s : State) (z : Int) : Prop :=
  ¬FpNaN 8 23 (s.params.f1Const.setWidth 128) ∧ fpValue 8 23 (s.params.f1Const.setWidth 128) < z

/-- The point lies inside the volume: `|x| < z`, `|y| < z`, `z < f1`, and the sign of `z` is 0 (`dv`, `cv`). -/
def Inside (s : State) (v : Hexlet) : Prop :=
  elementMagnitude v 0 < elementValue v 2 ∧ elementMagnitude v 1 < elementValue v 2 ∧
    BelowF1 s (elementValue v 2) ∧ elementSign v 2 = false

/-- Both points lie beyond the same plane: `|x| > z` with x of one sign, `|y| > z` with y of one sign, `z > f1`, or z
with a sign of 1 (`tr`). -/
def Outside (s : State) (d c : Hexlet) : Prop :=
  (elementValue d 2 < elementMagnitude d 0 ∧ elementValue c 2 < elementMagnitude c 0 ∧
      elementSign d 0 = elementSign c 0) ∨
    (elementValue d 2 < elementMagnitude d 1 ∧ elementValue c 2 < elementMagnitude c 1 ∧
      elementSign d 1 = elementSign c 1) ∨
    (AboveF1 s (elementValue d 2) ∧ AboveF1 s (elementValue c 2)) ∨
    (elementSign d 2 = true ∧ elementSign c 2 = true)

/-- A floating-point condition on an outcome of `fcom` (43_branch.md rules R530 to R545). -/
def FpOutcome (r : FpRelation) (o : FpOrder) : Prop :=
  match r with
  | .e => o = .equal
  | .ge => o = .greater ∨ o = .equal
  | .l => o = .less
  | .lg => o = .less ∨ o = .greater

/-- The low bits of a register as a number of `size` bits under `FPCompare = abstract`. -/
def freeNumber (size : Nat) (v : Hexlet) : FpNumber := Config.fpDecode size (v.setWidth size)

/-- Element `k` of a register under `FPCompare = abstract`. -/
def freeElement (v : Hexlet) (k : Nat) : FpNumber := Config.fpDecode 32 (v.extractLsb' (32 * k) 32)

/-- `less(p, q)` under `FPCompare = abstract`. -/
def FreeLess (p q : FpNumber) : Prop := Config.fpCompare p q = .less

/-- `fcom(fabs(p), q) = G` under `FPCompare = abstract`. -/
def FreeBeyond (p q : FpNumber) : Prop := Config.fpCompare (Config.fpAbs p) q = .greater

/-- One of the four elements is a NaN, under `FPCompare = abstract`. -/
def FreeSomeNaN (v : Hexlet) : Prop := ∃ k < 4, (freeElement v k).cls ≠ .number

/-- `dv` and `cv` under `FPCompare = abstract`. -/
def FreeInside (s : State) (v : Hexlet) : Prop :=
  FreeLess (Config.fpAbs (freeElement v 0)) (freeElement v 2) ∧
    FreeLess (Config.fpAbs (freeElement v 1)) (freeElement v 2) ∧
    FreeLess (freeElement v 2) (Config.fpDecode 32 s.params.f1Const) ∧ (freeElement v 2).negative = false

/-- `tr` under `FPCompare = abstract`. -/
def FreeOutside (s : State) (d c : Hexlet) : Prop :=
  (∃ k < 2, FreeBeyond (freeElement d k) (freeElement d 2) ∧ FreeBeyond (freeElement c k) (freeElement c 2) ∧
      (freeElement d k).negative = (freeElement c k).negative) ∨
    (FreeLess (Config.fpDecode 32 s.params.f1Const) (freeElement d 2) ∧
      FreeLess (Config.fpDecode 32 s.params.f1Const) (freeElement c 2)) ∨
    ((freeElement d 2).negative = true ∧ (freeElement c 2).negative = true)

/-- The four visibility branches on two points: none is taken when one of the eight elements is a NaN (`nan`); otherwise
B.I.F.32 is taken when both points lie beyond one plane (`outside`), B.NI.F.32 when they do not, B.V.F.32 when both lie
inside the volume (`inside`), B.NV.F.32 when one does not (43_branch.md rules R546 to R549). -/
def VisibilityBranches (rd rc : Reg) (offset : BitVec 12) (s : State) (nan outside inside : Prop) : Prop :=
  TakenWhen (.bIF32 rd rc offset) s offset (¬nan ∧ outside) ∧
    TakenWhen (.bNiF32 rd rc offset) s offset (¬nan ∧ ¬outside) ∧
    TakenWhen (.bNvF32 rd rc offset) s offset (¬nan ∧ ¬inside) ∧
    TakenWhen (.bVF32 rd rc offset) s offset (¬nan ∧ inside)

/-! ### Lanes -/

/-- A register whose lane `k` of `size` bits is `f k`, for every lane (45_group_arith.md rule R700). -/
def HasLanes (size : Nat) (v : Hexlet) (f : Nat → BitVec size) : Prop :=
  ∀ k < 128 / size, v.extractLsb' (size * k) size = f k

/-- Lane `k` of `x[r]`. -/
def laneOf (s : State) (r : Reg) (size k : Nat) : BitVec size := (s.reg r).extractLsb' (size * k) size

/-- The instruction completes and writes the register with the lanes `f k`. -/
def WritesLanes (i : Instr) (s : State) (rd : Reg) (size : Nat) (f : Nat → BitVec size) : Prop :=
  ∃ v, HasLanes size v f ∧ Writes128 i s rd v

/-- Half of the exact sum `t` of two lanes under each rounding (45_group_arith.md rule R702): ceiling, floor, toward
zero, and N, which adds `not p[1]` first. -/
def halved (r : Rounding) (t : Int) : Int :=
  match r with
  | .ceiling => -((-t) / 2)
  | .floor => t / 2
  | .nearest => (t + (1 - t / 2 % 2)) / 2
  | .zero => Int.tdiv t 2

/-! ### Whole-machine rules -/

/-- A.RES, a register branch with a field that must hold a fixed value and does not, and G.COPY.I.16 with `s = 1`: the
instructions that raise "Reserved Instruction" whatever the state (30_encoding.md rule R160). -/
def ReservedFields (i : Instr) : Prop :=
  (∃ imm, i = .aRes imm) ∨ (∃ rd imm, i = .gCopyI16 1 rd imm) ∨
    ∃ rd rc rb : Reg,
      ((i = .b rd rc rb ∨ i = .bBarrier rd rc rb ∨ i = .bDown rd rc rb) ∧ (rc ≠ 0 ∨ rb ≠ 0)) ∨
      ((i = .bBack rd rc rb ∨ i = .bHalt rd rc rb) ∧ (rd ≠ 0 ∨ rc ≠ 0 ∨ rb ≠ 0)) ∨
      (i = .bGate rd rc rb ∧ (rd ≠ 0 ∨ rc ≠ 1)) ∨ (i = .bLink rd rc rb ∧ rb ≠ 0)

/-- The 52 instructions that store (10_state.md rule R44, 20_memory.md rule R113). -/
def isStore : Instr → Bool
  | .s8 .. | .s16B .. | .s16AB .. | .s16L .. | .s16AL .. | .s32B .. | .s32AB .. | .s32L .. | .s32AL ..
  | .s64B .. | .s64AB .. | .s64L .. | .s64AL .. | .s128B .. | .s128AB .. | .s128L .. | .s128AL ..
  | .sMux64AB .. | .sMux64AL .. | .sI8 .. | .sI16AB .. | .sI16B .. | .sI16AL .. | .sI16L .. | .sI32AB ..
  | .sI32B .. | .sI32AL .. | .sI32L .. | .sI64AB .. | .sI64B .. | .sI64AL .. | .sI64L .. | .sI128AB ..
  | .sI128B .. | .sI128AL .. | .sI128L .. | .sMuxi64AB .. | .sMuxi64AL .. | .sDCS64AB .. | .sDCS64AL ..
  | .sASI64AB .. | .sASI64AL .. | .sCSI64AB .. | .sCSI64AL .. | .sMSI64AB .. | .sMSI64AL .. | .sAS64AB ..
  | .sAS64AL .. | .sCS64AB .. | .sCS64AL .. | .sMS64AB .. | .sMS64AL .. => true
  | _ => false

/-- The 60 loads. -/
def isLoad : Instr → Bool
  | .l8 .. | .l16B .. | .l16AB .. | .l16L .. | .l16AL .. | .l32B .. | .l32AB .. | .l32L .. | .l32AL ..
  | .l64B .. | .l64AB .. | .l64L .. | .l64AL .. | .l128B .. | .l128AB .. | .l128L .. | .l128AL ..
  | .lU8 .. | .lU16B .. | .lU16AB .. | .lU16L .. | .lU16AL .. | .lU32B .. | .lU32AB .. | .lU32L ..
  | .lU32AL .. | .lU64B .. | .lU64AB .. | .lU64L .. | .lU64AL .. | .lI8 .. | .lI16AB .. | .lI16B ..
  | .lI16AL .. | .lI16L .. | .lI32AB .. | .lI32B .. | .lI32AL .. | .lI32L .. | .lI64AB .. | .lI64B ..
  | .lI64AL .. | .lI64L .. | .lI128AB .. | .lI128B .. | .lI128AL .. | .lI128L .. | .lIU8 .. | .lIU16AB ..
  | .lIU16B .. | .lIU16AL .. | .lIU16L .. | .lIU32AB .. | .lIU32B .. | .lIU32AL .. | .lIU32L ..
  | .lIU64AB .. | .lIU64B .. | .lIU64AL .. | .lIU64L .. => true
  | _ => false

/-- The 36 instructions that assign `pc` (10_state.md rule R53). -/
def assignsPc : Instr → Bool
  | .b .. | .bBack .. | .bBarrier .. | .bAndE .. | .bAndNe .. | .bE .. | .bGe .. | .bL .. | .bNe ..
  | .bGeU .. | .bLU .. | .bEF16 .. | .bEF32 .. | .bEF64 .. | .bEF128 .. | .bGeF16 .. | .bGeF32 ..
  | .bGeF64 .. | .bGeF128 .. | .bLF16 .. | .bLF32 .. | .bLF64 .. | .bLF128 .. | .bLgF16 .. | .bLgF32 ..
  | .bLgF64 .. | .bLgF128 .. | .bIF32 .. | .bNiF32 .. | .bNvF32 .. | .bVF32 .. | .bDown .. | .bGate ..
  | .bI .. | .bLinkI .. | .bLink .. => true
  | _ => false

/-- The instructions that raise "Fixed-point arithmetic" (60_exceptions.md rule R901). -/
def mayOverflow : Instr → Bool
  | .aAddO .. | .aAddUO .. | .aComAndE .. | .aComAndNe .. | .aComE .. | .aComGe .. | .aComGeU ..
  | .aComL .. | .aComLU .. | .aComNe .. | .aAddIO .. | .aAddIUO .. | .aSubIO .. | .aSubIUO .. | .aSubO ..
  | .aSubUO .. | .aShlIO .. | .aShlIUO .. | .gAddI16O .. | .gAddI32O .. | .gAddI64O .. | .gAddI128O ..
  | .gAddIU16O .. | .gAddIU32O .. | .gAddIU64O .. | .gAddIU128O .. | .gSubI16O .. | .gSubI32O ..
  | .gSubI64O .. | .gSubI128O .. | .gSubIU16O .. | .gSubIU32O .. | .gSubIU64O .. | .gSubIU128O .. => true
  | _ => false

/-- The instructions that raise "Reserved Instruction" (60_exceptions.md rule R901). -/
def mayBeReserved : Instr → Bool
  | .aRes .. | .b .. | .bBack .. | .bBarrier .. | .bDown .. | .bGate .. | .bHalt .. | .bLink ..
  | .gCopyI16 .. => true
  | _ => false

/-- The branches that test their target (43_branch.md rule R501). -/
def testsTarget : Instr → Bool
  | .b .. | .bBarrier .. | .bLink .. | .bHint .. => true
  | _ => false

/-- The register an instruction writes, if it writes one (10_state.md rule R44). -/
def destination : Instr → Option Reg
  | .l8 rd _ _ | .l16B rd _ _ | .l16AB rd _ _ | .l16L rd _ _ | .l16AL rd _ _ | .l32B rd _ _
  | .l32AB rd _ _ | .l32L rd _ _ | .l32AL rd _ _ | .l64B rd _ _ | .l64AB rd _ _ | .l64L rd _ _
  | .l64AL rd _ _ | .l128B rd _ _ | .l128AB rd _ _ | .l128L rd _ _ | .l128AL rd _ _ | .lU8 rd _ _
  | .lU16B rd _ _ | .lU16AB rd _ _ | .lU16L rd _ _ | .lU16AL rd _ _ | .lU32B rd _ _ | .lU32AB rd _ _
  | .lU32L rd _ _ | .lU32AL rd _ _ | .lU64B rd _ _ | .lU64AB rd _ _ | .lU64L rd _ _ | .lU64AL rd _ _
  | .lI8 rd _ _ | .lI16AB rd _ _ | .lI16B rd _ _ | .lI16AL rd _ _ | .lI16L rd _ _ | .lI32AB rd _ _
  | .lI32B rd _ _ | .lI32AL rd _ _ | .lI32L rd _ _ | .lI64AB rd _ _ | .lI64B rd _ _ | .lI64AL rd _ _
  | .lI64L rd _ _ | .lI128AB rd _ _ | .lI128B rd _ _ | .lI128AL rd _ _ | .lI128L rd _ _ | .lIU8 rd _ _
  | .lIU16AB rd _ _ | .lIU16B rd _ _ | .lIU16AL rd _ _ | .lIU16L rd _ _ | .lIU32AB rd _ _
  | .lIU32B rd _ _ | .lIU32AL rd _ _ | .lIU32L rd _ _ | .lIU64AB rd _ _ | .lIU64B rd _ _
  | .lIU64AL rd _ _ | .lIU64L rd _ _ | .aAdd rd _ _ | .aAddO rd _ _ | .aAddUO rd _ _ | .aAnd rd _ _
  | .aAndn rd _ _ | .aNand rd _ _ | .aNor rd _ _ | .aOr rd _ _ | .aOrn rd _ _ | .aXnor rd _ _
  | .aXor rd _ _ | .aCopyI rd _ | .aAddI rd _ _ | .aAddIO rd _ _ | .aAddIUO rd _ _ | .aAndI rd _ _
  | .aNandI rd _ _ | .aNorI rd _ _ | .aOrI rd _ _ | .aXorI rd _ _ | .aSetAndEI rd _ _
  | .aSetAndNeI rd _ _ | .aSetEI rd _ _ | .aSetGeI rd _ _ | .aSetLI rd _ _ | .aSetNeI rd _ _
  | .aSetGeIU rd _ _ | .aSetLIU rd _ _ | .aSubI rd _ _ | .aSubIO rd _ _ | .aSubIUO rd _ _
  | .aSetAndE rd _ _ | .aSetAndNe rd _ _ | .aSetE rd _ _ | .aSetGe rd _ _ | .aSetGeU rd _ _
  | .aSetL rd _ _ | .aSetLU rd _ _ | .aSetNe rd _ _ | .aSub rd _ _ | .aSubO rd _ _ | .aSubUO rd _ _
  | .aShlIAdd rd _ _ _ | .aShlISub rd _ _ _ | .aShlI rd _ _ | .aShlIO rd _ _ | .aShlIUO rd _ _
  | .aShrI rd _ _ | .aShrIU rd _ _ | .bLink rd _ _ | .sDCS64AB rd _ _ | .sDCS64AL rd _ _
  | .sASI64AB rd _ _ | .sASI64AL rd _ _ | .sCSI64AB rd _ _ | .sCSI64AL rd _ _ | .sMSI64AB rd _ _
  | .sMSI64AL rd _ _ | .sAS64AB rd _ _ | .sAS64AL rd _ _ | .sCS64AB rd _ _ | .sCS64AL rd _ _
  | .sMS64AB rd _ _ | .sMS64AL rd _ _ | .gAddH8C rd _ _ | .gAddH8F rd _ _ | .gAddH8N rd _ _
  | .gAddH8Z rd _ _ | .gAddH16C rd _ _ | .gAddH16F rd _ _ | .gAddH16N rd _ _ | .gAddH16Z rd _ _
  | .gAddH32C rd _ _ | .gAddH32F rd _ _ | .gAddH32N rd _ _ | .gAddH32Z rd _ _ | .gAddH64C rd _ _
  | .gAddH64F rd _ _ | .gAddH64N rd _ _ | .gAddH64Z rd _ _ | .gAddH128C rd _ _ | .gAddH128F rd _ _
  | .gAddH128N rd _ _ | .gAddH128Z rd _ _ | .gAddHU8C rd _ _ | .gAddHU8F rd _ _ | .gAddHU8N rd _ _
  | .gAddHU16C rd _ _ | .gAddHU16F rd _ _ | .gAddHU16N rd _ _ | .gAddHU32C rd _ _ | .gAddHU32F rd _ _
  | .gAddHU32N rd _ _ | .gAddHU64C rd _ _ | .gAddHU64F rd _ _ | .gAddHU64N rd _ _ | .gAddHU128C rd _ _
  | .gAddHU128F rd _ _ | .gAddHU128N rd _ _ | .gCopyI16 _ rd _ | .gCopyI32 _ rd _ | .gCopyI64 _ rd _
  | .gCopyI128 _ rd _ | .gAaa8 rd _ _ | .gAaa16 rd _ _ | .gAaa32 rd _ _ | .gAaa64 rd _ _
  | .gAaa128 rd _ _ | .gAsa8 rd _ _ | .gAsa16 rd _ _ | .gAsa32 rd _ _ | .gAsa64 rd _ _ | .gAsa128 rd _ _
  | .gShlIAdd8 rd _ _ _ | .gShlIAdd16 rd _ _ _ | .gShlIAdd32 rd _ _ _ | .gShlIAdd64 rd _ _ _
  | .gShlIAdd128 rd _ _ _ | .gShlISub8 rd _ _ _ | .gShlISub16 rd _ _ _ | .gShlISub32 rd _ _ _
  | .gShlISub64 rd _ _ _ | .gShlISub128 rd _ _ _ | .gAddI16 rd _ _ | .gAddI16O rd _ _ | .gAddI32 rd _ _
  | .gAddI32O rd _ _ | .gAddI64 rd _ _ | .gAddI64O rd _ _ | .gAddI128 rd _ _ | .gAddI128O rd _ _
  | .gAddIU16O rd _ _ | .gAddIU32O rd _ _ | .gAddIU64O rd _ _ | .gAddIU128O rd _ _ | .gAndI16 rd _ _
  | .gAndI32 rd _ _ | .gAndI64 rd _ _ | .gAndI128 rd _ _ | .gNandI16 rd _ _ | .gNandI32 rd _ _
  | .gNandI64 rd _ _ | .gNandI128 rd _ _ | .gNorI16 rd _ _ | .gNorI32 rd _ _ | .gNorI64 rd _ _
  | .gNorI128 rd _ _ | .gOrI16 rd _ _ | .gOrI32 rd _ _ | .gOrI64 rd _ _ | .gOrI128 rd _ _
  | .gXorI16 rd _ _ | .gXorI32 rd _ _ | .gXorI64 rd _ _ | .gXorI128 rd _ _ | .gSetAndEI16 rd _ _
  | .gSetAndEI32 rd _ _ | .gSetAndEI64 rd _ _ | .gSetAndEI128 rd _ _ | .gSetAndNeI16 rd _ _
  | .gSetAndNeI32 rd _ _ | .gSetAndNeI64 rd _ _ | .gSetAndNeI128 rd _ _ | .gSetEI16 rd _ _
  | .gSetEI32 rd _ _ | .gSetEI64 rd _ _ | .gSetEI128 rd _ _ | .gSetGeI16 rd _ _ | .gSetGeI32 rd _ _
  | .gSetGeI64 rd _ _ | .gSetGeI128 rd _ _ | .gSetGeIU16 rd _ _ | .gSetGeIU32 rd _ _ | .gSetGeIU64 rd _ _
  | .gSetGeIU128 rd _ _ | .gSetLI16 rd _ _ | .gSetLI32 rd _ _ | .gSetLI64 rd _ _ | .gSetLI128 rd _ _
  | .gSetLIU16 rd _ _ | .gSetLIU32 rd _ _ | .gSetLIU64 rd _ _ | .gSetLIU128 rd _ _ | .gSetNeI16 rd _ _
  | .gSetNeI32 rd _ _ | .gSetNeI64 rd _ _ | .gSetNeI128 rd _ _ | .gSubI16 rd _ _ | .gSubI16O rd _ _
  | .gSubI32 rd _ _ | .gSubI32O rd _ _ | .gSubI64 rd _ _ | .gSubI64O rd _ _ | .gSubI128 rd _ _
  | .gSubI128O rd _ _ | .gSubIU16O rd _ _ | .gSubIU32O rd _ _ | .gSubIU64O rd _ _ | .gSubIU128O rd _ _ => some rd
  | .aMux _ _ _ ra => some ra
  | .bBack .. | .bGate .. | .bLinkI .. => some 0
  | _ => none

end Sys2Proof.Claims

open Sys2Proof Sys2Proof.Machine Sys2Proof.Claims

/-! ### Encoding and the step -/

/-- Nine words, one for each family and some formats, written from the field layout of 30_encoding.md rule R133 with the
model's own operation codes (notes/assumptions/1.md), decode to the instructions they stand for. -/
def Obligations.DecodesSampleWords : Prop :=
  decode 0b00000001_000101_000110_000111_010011#32 = .instr (.lU16AB 5 6 7) ∧
    decode 0b00101101_000001_000010_111111111110#32 = .instr (.sI64L 1 2 0xFFE) ∧
    decode 0b01001011_000001_000010_000011_000100#32 = .instr (.aMux 1 2 3 4) ∧
    decode 0b01001010_000001_000010_000011_0000_10#32 = .instr (.aShlIAdd 1 2 3 3) ∧
    decode 0b01010111_111111_000000_100000000000#32 = .instr (.bEF64 63 0 0x800) ∧
    decode 0b01101100_000001_000010_000011_000001#32 = .instr (.sDCS64AL 1 2 3) ∧
    decode 0b01110011_000001_000010_000011_000110#32 = .instr (.gAddH16N 1 2 3) ∧
    decode 0b01110101_000001_10_0000000000000111#32 = .instr (.gCopyI64 1 1 7) ∧
    decode 0b10000100_000001_000010_11_1000000001#32 = .instr (.gSetLIU128 1 2 0x201)

/-- Under every operation-code map that 30_encoding.md rule R134 allows, decoding the word of a well-formed instruction
gives the instruction back, whatever its operands. -/
def Obligations.DecodeOfEncode : Prop :=
  ∀ m : OpcodeMap, m.valid = true → ∀ i : Instr, i.WellFormed → decodeWith m (encodeWith m i) = .instr i

/-- Under every such map a word that decodes to an instruction is that instruction's word, and the instruction is
well-formed: no bit of the word is dropped, and no two words stand for one instruction. -/
def Obligations.EncodeOfDecode : Prop :=
  ∀ m : OpcodeMap, m.valid = true → ∀ (w : Word) (i : Instr),
    decodeWith m w = .instr i → encodeWith m i = w ∧ i.WellFormed

/-- The five encodings of G.ADD.H.U.size.Z are reserved under every map, with any operands, and a step that fetches a
reserved word raises "Reserved Instruction"; so does one that fetches A.RES, a register branch with a field that must be
0 or 1 and is not, or G.COPY.I.16 with `s = 1`, however many registers the machine has (30_encoding.md rule R160,
43_branch.md rule R503, 45_group_arith.md rule R703); the base address of the fetch is the model's choice
(notes/assumptions/11.md). -/
def Obligations.ReservedWordsRaise : Prop :=
  (∀ m : OpcodeMap, m.valid = true → ∀ k < 5, ∀ x y z : BitVec 6,
    decodeWith m (m.r3Word (345 + k) x y z) = .reserved) ∧
  ∀ (s : State) (pa : Nat → Nat) (w : Word),
    s.halted = false → s.Maps .execute s.pc s.pc 4 pa → s.mem.Holds pa s.params.fetchOrder 32 w → s.Fresh 4 pa →
      (decodeWith s.params.opcodeMap w = .reserved → IsRaised (step s) s .reservedInstruction) ∧
        ∀ i, decodeWith s.params.opcodeMap w = .instr i → ReservedFields i → IsRaised (step s) s .reservedInstruction

/-- A STEP RUNS THE DECODED INSTRUCTION.  Where the four bytes at `pc` may be fetched, hold the word `w`, and could not be
observed old, and `w` decodes under the map of the state to the instruction `i`, all of whose registers the machine has,
the step is `i`'s meaning at that very state.  Three things here are the model's choice and no rule of the spec: that a
word of no instruction is refused, which 30_encoding.md rule R161 only recommends (notes/assumptions/20.md); that a word
which names a register past `NREG` is refused (notes/assumptions/23.md); and that the base address a fetch gives to
`Translate` is `pc` (notes/assumptions/11.md). -/
def Obligations.StepRunsDecodedInstruction : Prop :=
  ∀ (s : State) (pa : Nat → Nat) (w : Word),
    s.halted = false → s.Maps .execute s.pc s.pc 4 pa → s.mem.Holds pa s.params.fetchOrder 32 w → s.Fresh 4 pa →
      (∀ i, decodeWith s.params.opcodeMap w = .instr i →
        (HasRegisters s i.registers → step s = exec i s) ∧
          (¬HasRegisters s i.registers → step s = .refused (.missingRegister w))) ∧
        (decodeWith s.params.opcodeMap w = .unassigned → step s = .refused (.unassignedWord w))

/-- An exception of the fetch comes before anything the instruction could do (60_exceptions.md rules R903 and R906); the
base address of the fetch is the model's choice (notes/assumptions/11.md). -/
def Obligations.FetchExceptionFirst : Prop :=
  ∀ (s : State) (e : AccessFault),
    s.halted = false → TranslationRaises s .execute s.pc s.pc 4 e → IsRaised (step s) s (.access e)

/-- What a fetch observes: each byte is the present contents or one of the contents it has had since the last B.BARRIER;
with nothing stored since, the present contents.  A store leaves the contents it replaced observable.  20_memory.md rule
R110 speaks of the old and the new contents; that every contents since the last B.BARRIER counts as old is the model's
choice (notes/assumptions/9.md), and so is the base address of the fetch (notes/assumptions/11.md). -/
def Obligations.FetchSeesOldOrNew : Prop :=
  (∀ (s : State) (pa : Nat → Nat), s.Maps .execute s.pc s.pc 4 pa →
    ∃ w t, s.fetch = .ok (w, t) ∧ t = { s with draws := t.draws } ∧
      (∀ k < 4, byteAt s.params.fetchOrder 32 w k = s.mem.read (pa k) ∨
        byteAt s.params.fetchOrder 32 w k ∈ s.staleAt (pa k)) ∧
      (s.stale = [] → s.mem.Holds pa s.params.fetchOrder 32 w)) ∧
  ∀ (s : State) (a b : Nat) (v : Byte),
    (s.storeByte a v).staleAt b = if b = a then s.mem.read a :: s.staleAt a else s.staleAt b

/-! ### Memory instructions -/

/-- The effective address of the register-indexed and of the immediate forms, as the concatenation the source writes and
as the sum modulo 2^64 (20_memory.md rules R81 and R82). -/
def Obligations.EffectiveAddress : Prop :=
  ∀ (s : State) (rc rb : Reg) (o : BitVec 12) (l : Nat), 3 ≤ l → l ≤ 7 →
    s.indexedAddress rc rb (2 ^ l) = s.lo rc + ((s.lo rb).setWidth (67 - l) ++ 0#(l - 3)).setWidth 64 ∧
    (s.indexedAddress rc rb (2 ^ l)).toNat = ((s.lo rc).toNat + (s.lo rb).toNat * 2 ^ (l - 3)) % 2 ^ 64 ∧
    s.offsetAddress rc o (2 ^ l) = s.lo rc + (o ++ 0#(l - 3)).signExtend 64 ∧
    s.offsetAddress rc o (2 ^ l) = BitVec.ofInt 64 ((s.lo rc).toInt + o.toInt * 2 ^ (l - 3))

/-- Every load completes where its bytes translate and its base is aligned if it must be: all 128 bits of `x[rd]` hold
the value memory holds, sign-extended or zero-extended, and nothing else but `pc` changes
(40_load.md rules R201, R202 and R203). -/
def Obligations.LoadsComplete : Prop :=
  ∀ f ∈ loadForms, ∀ (rd rc : Reg) (p : Place) (s : State) (pa : Nat → Nat) (v : BitVec f.size),
    (f.aligned = true → BaseAligned s rc f.size) →
    s.Maps .read (s.lo rc) (p.address s rc f.size) (f.size / 8) pa →
    s.mem.Holds pa f.order f.size v →
    ∃ a : Hexlet, (f.signed = true → a.toInt = v.toInt) ∧ (f.signed = false → a.toNat = v.toNat) ∧
      Writes128 (f.instr rd rc p) s rd a

/-- Every plain store completes where its bytes translate and its base is aligned if it must be: the low bits of `x[rd]`
are stored at the effective address in the instruction's byte order, every other byte is as it was, and nothing but
memory, what a fetch may observe of it, and `pc` changes (41_store.md rules R301 and R302). -/
def Obligations.StoresComplete : Prop :=
  ∀ f ∈ storeForms, ∀ (rd rc : Reg) (p : Place) (s : State) (pa : Nat → Nat),
    (f.aligned = true → BaseAligned s rc f.size) →
    s.Maps .write (s.lo rc) (p.address s rc f.size) (f.size / 8) pa →
    ∃ t, exec (f.instr rd rc p) s = .next t ∧ t = { s with pc := s.pc + 4#64, mem := t.mem, stale := t.stale } ∧
      StoredAt s t pa f.order f.size ((s.reg rd).setWidth f.size)

/-- Every aligned form whose base is not a multiple of the access size raises "Access disallowed by virtual address" and
does nothing else; S.D.C.S tests both of its addresses (20_memory.md rules R97 and R99). -/
def Obligations.MisalignedBaseRaises : Prop :=
  (∀ f ∈ loadForms, f.aligned = true → ∀ (rd rc : Reg) (p : Place) (s : State),
    ¬BaseAligned s rc f.size → Raises (f.instr rd rc p) s badAddress) ∧
  (∀ f ∈ storeForms ++ multiplexForms ++ addSwapForms ++ compareSwapForms ++ multiplexSwapForms, f.aligned = true →
    ∀ (rd rc : Reg) (p : Place) (s : State), ¬BaseAligned s rc f.size → Raises (f.instr rd rc p) s badAddress) ∧
  ∀ f ∈ doubleSwapForms, ∀ (rd rc rb : Reg) (s : State),
    ¬BaseAligned s rc 64 ∨ ¬BaseAligned s rb 64 → Raises (f.1 rd rc rb) s badAddress

/-- The exception that `Translate` raises for the first byte that has no address is the instruction's: for a load the
access is a read; for a store, and for the load at the head of a `lock` block, it is a write (20_memory.md rules R90,
R91, R93 and R101). -/
def Obligations.AccessExceptionsTaken : Prop :=
  (∀ f ∈ loadForms, ∀ (rd rc : Reg) (p : Place) (s : State) (e : AccessFault),
    (f.aligned = true → BaseAligned s rc f.size) →
    TranslationRaises s .read (s.lo rc) (p.address s rc f.size) (f.size / 8) e →
    Raises (f.instr rd rc p) s (.access e)) ∧
  ∀ f ∈ storeForms ++ multiplexForms ++ addSwapForms ++ compareSwapForms ++ multiplexSwapForms,
    ∀ (rd rc : Reg) (p : Place) (s : State) (e : AccessFault),
      (f.aligned = true → BaseAligned s rc f.size) →
      TranslationRaises s .write (s.lo rc) (p.address s rc f.size) (f.size / 8) e →
      Raises (f.instr rd rc p) s (.access e)

/-- An unaligned load or store of more than one byte whose bytes would run past address 2^64 - 1 is refused, and so is
B.BACK's, before any byte is translated; the base of an aligned form never lets that happen.  20_memory.md rule R106 gives
such an access no meaning: that it is refused, and that this comes before every translation, is the model's choice
(notes/assumptions/19.md). -/
def Obligations.AccessPastEndRefused : Prop :=
  (∀ f ∈ loadForms, f.aligned = false → 8 < f.size → ∀ (rd rc : Reg) (p : Place) (s : State),
    2 ^ 64 < (p.address s rc f.size).toNat + f.size / 8 →
    exec (f.instr rd rc p) s = .refused .accessPastEnd) ∧
  (∀ f ∈ storeForms, f.aligned = false → 8 < f.size → ∀ (rd rc : Reg) (p : Place) (s : State),
    2 ^ 64 < (p.address s rc f.size).toNat + f.size / 8 →
    exec (f.instr rd rc p) s = .refused .accessPastEnd) ∧
  (∀ s : State, 2 ^ 64 < (s.exceptionBase + s.thread * 128#64).toNat + 16 →
    exec (.bBack 0 0 0) s = .refused .accessPastEnd) ∧
  ∀ (rc : Reg) (p : Place) (s : State) (l : Nat), 3 ≤ l → l ≤ 7 → BaseAligned s rc (2 ^ l) →
    (p.address s rc (2 ^ l)).toNat + 2 ^ l / 8 ≤ 2 ^ 64

/-- The multiplex stores: where write permission is given, the octlet in memory is replaced bit by bit under the mask
`x[rd][63:0]`, no register is written, and the store cannot raise (41_store.md rule R303). -/
def Obligations.MultiplexStores : Prop :=
  ∀ f ∈ multiplexForms, ∀ (rd rc : Reg) (p : Place) (s : State) (pa : Nat → Nat) (a m : Octlet),
    BaseAligned s rc 64 →
    s.Maps .write (s.lo rc) (p.address s rc 64) 8 pa →
    s.mem.Holds pa f.order 64 a →
    Multiplexes (s.reg rd) a m →
    ∃ t, exec (f.instr rd rc p) s = .next t ∧ t = { s with pc := s.pc + 4#64, mem := t.mem, stale := t.stale } ∧
      StoredAt s t pa f.order 64 m

/-- The add swaps and the multiplex swaps: the sum modulo 2^64, or the multiplexed octlet, is stored, and the old octlet
is returned in `x[rd][63:0]` (44_store_atomic.md rules R602 and R603). -/
def Obligations.AddAndMultiplexSwaps : Prop :=
  (∀ f ∈ addSwapForms, ∀ (rd rc : Reg) (p : Place) (s : State) (pa : Nat → Nat) (a : Octlet),
    BaseAligned s rc 64 →
    s.Maps .write (s.lo rc) (p.address s rc 64) 8 pa →
    s.mem.Holds pa f.order 64 a →
    ∃ t u, UpperHalf s rd a u ∧ exec (f.instr rd rc p) s = .next t ∧
      t = { s with
            pc := s.pc + 4#64, regs := s.regs.set rd.toNat (u ++ a) rd.isLt, draws := s.draws + 1
            mem := t.mem, stale := t.stale } ∧
      StoredAt s t pa f.order 64 (BitVec.ofNat 64 ((s.lo rd).toNat + a.toNat))) ∧
  ∀ f ∈ multiplexSwapForms, ∀ (rd rc : Reg) (p : Place) (s : State) (pa : Nat → Nat) (a m : Octlet),
    BaseAligned s rc 64 →
    s.Maps .write (s.lo rc) (p.address s rc 64) 8 pa →
    s.mem.Holds pa f.order 64 a →
    Multiplexes (s.reg rd) a m →
    ∃ t u, UpperHalf s rd a u ∧ exec (f.instr rd rc p) s = .next t ∧
      t = { s with
            pc := s.pc + 4#64, regs := s.regs.set rd.toNat (u ++ a) rd.isLt, draws := s.draws + 1
            mem := t.mem, stale := t.stale } ∧
      StoredAt s t pa f.order 64 m

/-- The compare swaps: `x[rd][127:64]` is stored exactly when the octlet is `x[rd][63:0]`, and the old octlet is returned
in `x[rd][63:0]` either way (44_store_atomic.md rules R602, R603 and R605). -/
def Obligations.CompareSwaps : Prop :=
  ∀ f ∈ compareSwapForms, ∀ (rd rc : Reg) (p : Place) (s : State) (pa : Nat → Nat) (a : Octlet),
    BaseAligned s rc 64 →
    s.Maps .write (s.lo rc) (p.address s rc 64) 8 pa →
    s.mem.Holds pa f.order 64 a →
    (a = s.lo rd →
      ∃ t u, UpperHalf s rd a u ∧ exec (f.instr rd rc p) s = .next t ∧
        t = { s with
              pc := s.pc + 4#64, regs := s.regs.set rd.toNat (u ++ a) rd.isLt, draws := s.draws + 1
              mem := t.mem, stale := t.stale } ∧
        StoredAt s t pa f.order 64 (s.hi rd)) ∧
    (a ≠ s.lo rd → Writes64 (f.instr rd rc p) s rd a)

/-- S.D.C.S.  Where both octlets have write permission, all 128 bits of `x[rd]` return the two old octlets.  If both are as
expected, the new one at the `rc` address is stored and then the one at the `rb` address; if either is not, memory is
unchanged (44_store_atomic.md rules R601 and R605). -/
def Obligations.DoubleCompareSwaps : Prop :=
  ∀ f ∈ doubleSwapForms, ∀ (rd rc rb : Reg) (s : State) (pa pb : Nat → Nat) (a b : Octlet),
    BaseAligned s rc 64 → BaseAligned s rb 64 →
    s.Maps .write (s.lo rc) (s.lo rc) 8 pa → s.Maps .write (s.lo rb) (s.lo rb) 8 pb →
    s.mem.Holds pa f.2 64 a → s.mem.Holds pb f.2 64 b →
    (a = s.hi rc ∧ b = s.hi rb →
      ∃ t u, exec (f.1 rd rc rb) s = .next t ∧
        t = { s with
              pc := s.pc + 4#64, regs := s.regs.set rd.toNat (a ++ b) rd.isLt
              mem := t.mem, stale := t.stale } ∧
        StoredAt s u pa f.2 64 (s.hi rd) ∧ StoredAt u t pb f.2 64 (s.lo rd)) ∧
    (¬(a = s.hi rc ∧ b = s.hi rb) → Writes128 (f.1 rd rc rb) s rd (a ++ b))

/-- S.D.C.S raises the access exception of the octlet at the `rc` address, and, where that one has write permission, the
one of the octlet at the `rb` address; nothing is stored (44_store_atomic.md rule R604). -/
def Obligations.DoubleCompareSwapRaises : Prop :=
  ∀ f ∈ doubleSwapForms, ∀ (rd rc rb : Reg) (s : State) (e : AccessFault),
    BaseAligned s rc 64 → BaseAligned s rb 64 →
    (TranslationRaises s .write (s.lo rc) (s.lo rc) 8 e → Raises (f.1 rd rc rb) s (.access e)) ∧
    ((∃ pa, s.Maps .write (s.lo rc) (s.lo rc) 8 pa) → TranslationRaises s .write (s.lo rb) (s.lo rb) 8 e →
      Raises (f.1 rd rc rb) s (.access e))

/-- A LOAD RETURNS WHAT THE LATEST STORE STORED (20_memory.md rules R95 and R108): after any plain store, a load of the
same size and order from the same place gives back in the low bits of its register what the store stored, wherever reads
and writes of the place reach the same bytes of memory, no two of them one byte, as they do under the default translation
of rule R102. -/
def Obligations.LoadAfterStore : Prop :=
  ∀ f ∈ storeForms, ∀ g ∈ loadForms, g.size = f.size → g.order = f.order →
    ∀ (rd rc rq : Reg) (p : Place) (s : State) (pa : Nat → Nat),
      BaseAligned s rc f.size ∨ (f.aligned = false ∧ g.aligned = false) →
      s.Maps .write (s.lo rc) (p.address s rc f.size) (f.size / 8) pa →
      s.Maps .read (s.lo rc) (p.address s rc f.size) (f.size / 8) pa →
      (∀ j < f.size / 8, ∀ k < f.size / 8, pa j = pa k → j = k) →
      ∃ t u, exec (f.instr rd rc p) s = .next t ∧ exec (g.instr rq rc p) t = .next u ∧
        (u.reg rq).setWidth f.size = (s.reg rd).setWidth f.size

/-! ### Address instructions -/

/-- The bitwise instructions on 64 bits, bit by bit, and A.MUX, which takes each bit from `rc` where `rd` has a 1 and from
`rb` where it has a 0; an immediate is sign-extended (42_address.md rules R414 to R421, R434 to R438 and R469). -/
def Obligations.AddressLogic : Prop :=
  (∀ f ∈ addressLogicForms, ∀ (rd rc rb : Reg) (s : State), ∃ a : Octlet,
    (∀ k < 64, a.getLsbD k = f.2 ((s.reg rc).getLsbD k) ((s.reg rb).getLsbD k)) ∧ Writes64 (f.1 rd rc rb) s rd a) ∧
  (∀ f ∈ addressLogicImmediateForms, ∀ (rd rc : Reg) (imm : BitVec 12) (s : State), ∃ a : Octlet,
    (∀ k < 64, a.getLsbD k = f.2 ((s.reg rc).getLsbD k) (imm.getLsbD (min k 11))) ∧
      Writes64 (f.1 rd rc imm) s rd a) ∧
  ∀ (rd rc rb ra : Reg) (s : State), ∃ a : Octlet,
    (∀ k < 64, a.getLsbD k = if (s.reg rd).getLsbD k then (s.reg rc).getLsbD k else (s.reg rb).getLsbD k) ∧
      Writes64 (.aMux rd rc rb ra) s ra a

/-- The unchecked sums and differences wrap modulo 2^64: A.ADD, A.SUB, A.ADD.I, A.SUB.I, A.SHL.I.ADD, A.SHL.I.SUB; A.SUB
is `rb - rc` and A.SUB.I is `imm - rc` (42_address.md rules R411, R431, R447, R459, R462 and R463). -/
def Obligations.AddressArithmeticWraps : Prop :=
  ∀ (rd rc rb : Reg) (imm : BitVec 12) (amount : Nat) (s : State), 1 ≤ amount → amount ≤ 4 →
    Writes64 (.aAdd rd rc rb) s rd (BitVec.ofInt 64 ((s.lo rc).toInt + (s.lo rb).toInt)) ∧
    Writes64 (.aSub rd rc rb) s rd (BitVec.ofInt 64 ((s.lo rb).toInt - (s.lo rc).toInt)) ∧
    Writes64 (.aAddI rd rc imm) s rd (BitVec.ofInt 64 ((s.lo rc).toInt + imm.toInt)) ∧
    Writes64 (.aSubI rd rc imm) s rd (BitVec.ofInt 64 (imm.toInt - (s.lo rc).toInt)) ∧
    Writes64 (.aShlIAdd rd rc rb amount) s rd
      (BitVec.ofInt 64 ((s.lo rc).toInt + (s.lo rb).toInt * 2 ^ amount)) ∧
    Writes64 (.aShlISub rd rc rb amount) s rd
      (BitVec.ofInt 64 ((s.lo rb).toInt * 2 ^ amount - (s.lo rc).toInt))

/-- The signed checked sums and differences: written when the exact signed result fits in 64 bits, and otherwise
"Fixed-point arithmetic" (42_address.md rules R402, R412, R432, R448 and R460). -/
def Obligations.AddressSignedChecked : Prop :=
  ∀ (rd rc rb : Reg) (imm : BitVec 12) (s : State),
    Checked (.aAddO rd rc rb) s rd (-2 ^ 63) (2 ^ 63) ((s.lo rc).toInt + (s.lo rb).toInt) ∧
    Checked (.aSubO rd rc rb) s rd (-2 ^ 63) (2 ^ 63) ((s.lo rb).toInt - (s.lo rc).toInt) ∧
    Checked (.aAddIO rd rc imm) s rd (-2 ^ 63) (2 ^ 63) ((s.lo rc).toInt + imm.toInt) ∧
    Checked (.aSubIO rd rc imm) s rd (-2 ^ 63) (2 ^ 63) (imm.toInt - (s.lo rc).toInt)

/-- The unsigned checked register forms: written when the exact unsigned result fits in 64 bits, and otherwise
"Fixed-point arithmetic" (42_address.md rules R402, R413 and R461). -/
def Obligations.AddressUnsignedChecked : Prop :=
  ∀ (rd rc rb : Reg) (s : State),
    Checked (.aAddUO rd rc rb) s rd 0 (2 ^ 64) ((s.lo rc).toNat + (s.lo rb).toNat : Int) ∧
    Checked (.aSubUO rd rc rb) s rd 0 (2 ^ 64) ((s.lo rb).toNat - (s.lo rc).toNat : Int)

/-- A.ADD.I.U.O and A.SUB.I.U.O under each reading of `UOImmReading`: the result is the same wrapped sum or difference
under all three; "Fixed-point arithmetic" exactly when bit 64 of the 65-bit `t` is set, `t` formed from `c` and `i`
sign-extended or zero-extended as the reading says (42_address.md rule R403). -/
def Obligations.AddressUnsignedImmediateChecked : Prop :=
  ∀ (rd rc : Reg) (imm : BitVec 12) (s : State) (c i : Int),
    c = (if s.params.uoReading = .literal then (s.lo rc).toInt else ((s.lo rc).toNat : Int)) →
    i = (if s.params.uoReading = .zextBoth then ((imm.signExtend 64).toNat : Int) else imm.toInt) →
    ((c + i) % 2 ^ 65 < 2 ^ 64 →
      Writes64 (.aAddIUO rd rc imm) s rd (BitVec.ofInt 64 ((s.lo rc).toInt + imm.toInt))) ∧
    (2 ^ 64 ≤ (c + i) % 2 ^ 65 → Raises (.aAddIUO rd rc imm) s .fixedPointArithmetic) ∧
    ((i - c) % 2 ^ 65 < 2 ^ 64 →
      Writes64 (.aSubIUO rd rc imm) s rd (BitVec.ofInt 64 (imm.toInt - (s.lo rc).toInt))) ∧
    (2 ^ 64 ≤ (i - c) % 2 ^ 65 → Raises (.aSubIUO rd rc imm) s .fixedPointArithmetic)

/-- A.SET of two registers: 64 ones when the condition holds of `x[rb]` and `x[rc]` on `W` bits, the left operand `rb`,
and 64 zeros when it does not (42_address.md rules R404, R405, R450 and R451 to R458). -/
def Obligations.AddressSetRegisters : Prop :=
  ∀ f ∈ setForms, ∀ (rd rc rb : Reg) (s : State),
    (Compares s f.1 rb rc → Writes64 (f.2 rd rc rb) s rd (BitVec.ofInt 64 (-1))) ∧
    (¬Compares s f.1 rb rc → Writes64 (f.2 rd rc rb) s rd (BitVec.ofInt 64 0))

/-- A.SET of an immediate and a register: the sign-extended immediate is the left operand, the low 64 bits of `x[rc]` the
right one (42_address.md rules R439 to R446). -/
def Obligations.AddressSetImmediate : Prop :=
  ∀ f ∈ setImmediateForms, ∀ (rd rc : Reg) (imm : BitVec 12) (s : State),
    (Condition f.1 (imm.signExtend 64) (s.lo rc) → Writes64 (f.2 rd rc imm) s rd (BitVec.ofInt 64 (-1))) ∧
    (¬Condition f.1 (imm.signExtend 64) (s.lo rc) → Writes64 (f.2 rd rc imm) s rd (BitVec.ofInt 64 0))

/-- A.COM: "Fixed-point arithmetic" when the condition holds of `x[rd]` and `x[rc]` on `W` bits, the left operand `rd`, and
no effect when it does not (42_address.md rules R422 to R429, R405 and R450). -/
def Obligations.AddressCompare : Prop :=
  ∀ f ∈ compareForms, ∀ (rd rc : Reg) (s : State),
    (Compares s f.1 rd rc → Raises (f.2 rd rc) s .fixedPointArithmetic) ∧ (¬Compares s f.1 rd rc → GoesOn (f.2 rd rc) s)

/-- The shifts as arithmetic: left is multiplication modulo 2^64, right is division rounded down, signed or unsigned; the
checked left shifts write the product when it fits in 64 bits, signed or unsigned, and otherwise raise "Fixed-point
arithmetic" (42_address.md rules R464 to R468). -/
def Obligations.AddressShifts : Prop :=
  ∀ (rd rc : Reg) (n : BitVec 6) (s : State),
    Writes64 (.aShlI rd rc n) s rd (BitVec.ofNat 64 ((s.lo rc).toNat * 2 ^ n.toNat)) ∧
    Writes64 (.aShrI rd rc n) s rd (BitVec.ofInt 64 ((s.lo rc).toInt / 2 ^ n.toNat)) ∧
    Writes64 (.aShrIU rd rc n) s rd (BitVec.ofNat 64 ((s.lo rc).toNat / 2 ^ n.toNat)) ∧
    Checked (.aShlIO rd rc n) s rd (-2 ^ 63) (2 ^ 63) ((s.lo rc).toInt * 2 ^ n.toNat) ∧
    Checked (.aShlIUO rd rc n) s rd 0 (2 ^ 64) ((s.lo rc).toNat * 2 ^ n.toNat : Int)

/-- A.COPY.I writes its 18-bit immediate, sign-extended, to all 128 bits (42_address.md rule R430). -/
def Obligations.AddressCopyImmediate : Prop :=
  ∀ (rd : Reg) (imm : BitVec 18) (s : State), ∃ v : Hexlet, v.toInt = imm.toInt ∧ Writes128 (.aCopyI rd imm) s rd v

/-- A.RES raises "Reserved Instruction" always, whatever its field (42_address.md rule R410). -/
def Obligations.AlwaysReserved : Prop :=
  ∀ (imm : BitVec 24) (s : State), Raises (.aRes imm) s .reservedInstruction

/-! ### Branch instructions -/

/-- B and B.BARRIER go to the address in `x[rd]`, and B.BARRIER leaves nothing that a fetch could observe old; B.LINK goes
to the address in `x[rc]` and leaves `pc + 4` in `x[rd]`.  A field that is not used and not 0 raises "Reserved
Instruction" before anything else; then a target that is no multiple of 4 raises "Access disallowed by virtual address"
(43_branch.md rules R510, R521 and R576). -/
def Obligations.BranchesThroughRegister : Prop :=
  ∀ (rd rc rb : Reg) (s : State),
    (rc ≠ 0 ∨ rb ≠ 0 →
      Raises (.b rd rc rb) s .reservedInstruction ∧ Raises (.bBarrier rd rc rb) s .reservedInstruction) ∧
    (rb ≠ 0 → Raises (.bLink rd rc rb) s .reservedInstruction) ∧
    ((s.lo rd).toNat % 4 = 0 → GoesTo (.b rd 0 0) s (s.lo rd) ∧
      exec (.bBarrier rd 0 0) s = .next { s with pc := s.lo rd, stale := [] }) ∧
    ((s.lo rd).toNat % 4 ≠ 0 → Raises (.b rd 0 0) s badAddress ∧ Raises (.bBarrier rd 0 0) s badAddress) ∧
    ((s.lo rc).toNat % 4 = 0 → Links (.bLink rd rc 0) s rd (s.pc + 4#64) (s.lo rc)) ∧
    ((s.lo rc).toNat % 4 ≠ 0 → Raises (.bLink rd rc 0) s badAddress)

/-- B.I and B.LINK.I add four times their signed 24-bit offset to `pc`; B.LINK.I leaves `pc + 4` in `x[0]`
(43_branch.md rules R574 and R575). -/
def Obligations.BranchesImmediate : Prop :=
  ∀ (offset : BitVec 24) (s : State),
    GoesTo (.bI offset) s (branchTo s offset) ∧ Links (.bLinkI offset) s 0 (s.pc + 4#64) (branchTo s offset)

/-- The eight integer conditional branches: taken, to `pc` plus four times the signed offset, exactly when the condition
holds of `x[rd]` and `x[rc]` on `W` bits (43_branch.md rules R504 and R522 to R529). -/
def Obligations.BranchesConditional : Prop :=
  ∀ f ∈ branchForms, ∀ (rd rc : Reg) (offset : BitVec 12) (s : State),
    TakenWhen (f.2 rd rc offset) s offset (Compares s f.1 rd rc)

/-- The sixteen floating-point branches.  Under IEEE 754, the default of the parameter `FPCompare`, taken exactly when
neither operand is a NaN and the condition holds of the two numbers, +0 and -0 being equal and the infinities beyond
every finite number; under abstract functions, exactly when it holds of the outcome of `fcom` on `F` of the two operands
(43_branch.md rules R505 and R530 to R545; notes/assumptions/12.md). -/
def Obligations.BranchesFloat : Prop :=
  ∀ f ∈ floatForms, ∀ (rd rc : Reg) (offset : BitVec 12) (s : State),
    (s.params.fpCompare = .ieee754 → TakenWhen (f.2.2.2 rd rc offset) s offset
      (¬FpNaN f.2.1 f.2.2.1 (s.reg rd) ∧ ¬FpNaN f.2.1 f.2.2.1 (s.reg rc) ∧
        FpCondition f.1 (fpValue f.2.1 f.2.2.1 (s.reg rd)) (fpValue f.2.1 f.2.2.1 (s.reg rc)))) ∧
    (s.params.fpCompare = .abstract → TakenWhen (f.2.2.2 rd rc offset) s offset
      (FpOutcome f.1 (Config.fpCompare (freeNumber (1 + f.2.1 + f.2.2.1) (s.reg rd))
        (freeNumber (1 + f.2.1 + f.2.2.1) (s.reg rc)))))

/-- The four visibility branches: never taken when one of the eight elements is a NaN; B.I.F.32 is taken when both points
lie beyond one plane, B.NI.F.32 when they do not, B.V.F.32 when both lie inside the volume, B.NV.F.32 when one does not;
under IEEE 754, the default of the parameter `FPCompare`, and under abstract functions
(43_branch.md rules R505 and R546 to R549; notes/assumptions/12.md). -/
def Obligations.BranchesVisibility : Prop :=
  ∀ (rd rc : Reg) (offset : BitVec 12) (s : State),
    (s.params.fpCompare = .ieee754 → VisibilityBranches rd rc offset s (SomeNaN (s.reg rd) ∨ SomeNaN (s.reg rc))
      (Outside s (s.reg rd) (s.reg rc)) (Inside s (s.reg rd) ∧ Inside s (s.reg rc))) ∧
    (s.params.fpCompare = .abstract →
      VisibilityBranches rd rc offset s (FreeSomeNaN (s.reg rd) ∨ FreeSomeNaN (s.reg rc))
        (FreeOutside s (s.reg rd) (s.reg rc)) (FreeInside s (s.reg rd) ∧ FreeInside s (s.reg rc)))

/-- B.DOWN: the privilege level becomes the lower of itself and bits 1..0 of `x[rd]`, and the program goes on at the
multiple of 4 below `x[rd][63:0]`; a field that is not 0 raises "Reserved Instruction" (43_branch.md rule R555). -/
def Obligations.BranchDown : Prop :=
  ∀ (rd rc rb : Reg) (s : State),
    (rc ≠ 0 ∨ rb ≠ 0 → Raises (.bDown rd rc rb) s .reservedInstruction) ∧
    ∃ (p : Level) (t : Octlet),
      p.toNat = min s.privilegeLevel.toNat ((s.lo rd).toNat % 4) ∧ t.toNat = (s.lo rd).toNat / 4 * 4 ∧
        exec (.bDown rd 0 0) s = .next { s with privilegeLevel := p, pc := t }

/-- B.BACK, the return from an exception: where the 16 bytes at `ExceptionBase + Thread*128` may be read, `x[0]` is
reloaded from them, the privilege level is lowered to bits 1..0 of the old `x[0]` if that is lower, the program goes on
at the old `x[0][63:2] || 0^2`, and `ExceptionState` is 0; where they may not, their exception is raised.  A field that
is not 0 raises "Reserved Instruction" before anything else (43_branch.md rule R520, 60_exceptions.md rule R940). -/
def Obligations.BranchBack : Prop :=
  ∀ s : State,
    (∀ rd rc rb : Reg, rd ≠ 0 ∨ rc ≠ 0 ∨ rb ≠ 0 → Raises (.bBack rd rc rb) s .reservedInstruction) ∧
    (∀ (pa : Nat → Nat) (a : Hexlet),
      s.Maps .read s.exceptionBase (s.exceptionBase + s.thread * 128#64) 16 pa → s.mem.Holds pa .little 128 a →
      ∃ (p : Level) (t : Octlet),
        p.toNat = min s.privilegeLevel.toNat ((s.lo 0).toNat % 4) ∧ t.toNat = (s.lo 0).toNat / 4 * 4 ∧
          exec (.bBack 0 0 0) s = .next { s with
            regs := s.regs.set 0 a, pc := t, privilegeLevel := p, exceptionState := 0 }) ∧
    ∀ e : AccessFault,
      TranslationRaises s .read s.exceptionBase (s.exceptionBase + s.thread * 128#64) 16 e →
        Raises (.bBack 0 0 0) s (.access e)

/-- B.GATE completes in two ways.  When the level asked for is above the current one and the gateway octlet at `x[1]` may
be read and holds the very word `x[rb][63:0]`, the level is raised to bits 1..0 of it.  When the level asked for is not
above the current one, no memory is read and the level stays.  In both the program goes on at the word's upper 62 bits
and `x[0][63:0]` is the address of the next instruction with the caller's level in bits 1..0
(43_branch.md rule R560). -/
def Obligations.GatewayEnters : Prop :=
  ∀ (rb : Reg) (s : State) (d t : Octlet),
    (s.lo 1).toNat % 8 = 0 →
    d.toNat = (s.pc.toNat / 4 + 1) % 2 ^ 62 * 4 + s.privilegeLevel.toNat →
    t.toNat = (s.lo rb).toNat / 4 * 4 →
    (∀ (pa : Nat → Nat) (p : Level), s.privilegeLevel.toNat < (s.lo rb).toNat % 4 → p.toNat = (s.lo rb).toNat % 4 →
      s.Maps .gateway (s.lo 1) (s.lo 1) 8 pa → s.mem.Holds pa .little 64 (s.lo rb) →
      ∃ u, UpperHalf s 0 d u ∧ exec (.bGate 0 1 rb) s = .next { s with
        regs := s.regs.set 0 (u ++ d), pc := t, privilegeLevel := p, draws := s.draws + 1 }) ∧
    ((s.lo rb).toNat % 4 ≤ s.privilegeLevel.toNat → Links (.bGate 0 1 rb) s 0 d t)

/-- What B.GATE raises, in this order: "Reserved Instruction" when `rd` is not 0 or `rc` not 1; "Access disallowed by
virtual address" when `x[1]` is no multiple of 8, even if no gateway is read; then, if the level asked for is above the
current one, the access exception of the gateway; then "Gateway disallowed" when the octlet there is not the word
`x[rb][63:0]` (43_branch.md rule R560, 60_exceptions.md rule R905). -/
def Obligations.GatewayRaises : Prop :=
  ∀ (rb : Reg) (s : State),
    (∀ rd rc : Reg, rd ≠ 0 ∨ rc ≠ 1 → Raises (.bGate rd rc rb) s .reservedInstruction) ∧
    ((s.lo 1).toNat % 8 ≠ 0 → Raises (.bGate 0 1 rb) s badAddress) ∧
    ((s.lo 1).toNat % 8 = 0 → s.privilegeLevel.toNat < (s.lo rb).toNat % 4 →
      (∀ e : AccessFault, TranslationRaises s .gateway (s.lo 1) (s.lo 1) 8 e →
        Raises (.bGate 0 1 rb) s (.access e)) ∧
      ∀ (pa : Nat → Nat) (m : Octlet), s.Maps .gateway (s.lo 1) (s.lo 1) 8 pa → s.mem.Holds pa .little 64 m →
        m ≠ s.lo rb → Raises (.bGate 0 1 rb) s .gatewayDisallowed)

/-- B.HALT changes nothing but that the machine is halted, and a step of a halted machine leaves it as it is; a field that
is not 0 raises "Reserved Instruction".  B.HINT.I only goes on to the next instruction, and so does B.HINT if the target
it announces is a multiple of 4; otherwise it raises "Access disallowed by virtual address"
(43_branch.md rules R565, R566, R568 and R569).  That a step of a halted machine answers the same state is the model's
choice (notes/assumptions/15.md). -/
def Obligations.HaltAndHints : Prop :=
  ∀ (rd rc rb : Reg) (n m : BitVec 6) (offset : BitVec 12) (s : State),
    (rd ≠ 0 ∨ rc ≠ 0 ∨ rb ≠ 0 → Raises (.bHalt rd rc rb) s .reservedInstruction) ∧
    exec (.bHalt 0 0 0) s = .next { s with halted := true } ∧
    (s.halted = true → step s = .next s) ∧
    GoesOn (.bHintI n m offset) s ∧
    ((s.lo rd).toNat % 4 = 0 → GoesOn (.bHint rd n m) s) ∧
    ((s.lo rd).toNat % 4 ≠ 0 → Raises (.bHint rd n m) s badAddress)

/-! ### Group instructions -/

/-- G.ADD.H and G.ADD.H.U: each lane of the result is half of the exact sum of the two lanes under the rounding of the
mnemonic, lanes read as signed or as unsigned numbers; it always fits (45_group_arith.md rules R701 and R702). -/
def Obligations.GroupAddHalve : Prop :=
  (∀ f ∈ addHalveForms, ∀ (rd rc rb : Reg) (s : State), ∃ v : Hexlet,
    (∀ k < 128 / f.1, (v.extractLsb' (f.1 * k) f.1).toInt =
      halved f.2.1 ((laneOf s rc f.1 k).toInt + (laneOf s rb f.1 k).toInt)) ∧ Writes128 (f.2.2 rd rc rb) s rd v) ∧
  ∀ f ∈ addHalveUnsignedForms, ∀ (rd rc rb : Reg) (s : State), ∃ v : Hexlet,
    (∀ k < 128 / f.1, ((v.extractLsb' (f.1 * k) f.1).toNat : Int) =
      halved f.2.1 ((laneOf s rc f.1 k).toNat + (laneOf s rb f.1 k).toNat : Int)) ∧
      Writes128 (f.2.2 rd rc rb) s rd v

/-- G.COPY.I: every lane is the 17-bit value `s || imm` sign-extended; G.COPY.I.16 takes only `s = 0`, and raises
"Reserved Instruction" with `s = 1` (45_group_arith.md rule R704). -/
def Obligations.GroupCopyImmediate : Prop :=
  ∀ f ∈ copyForms, ∀ (sign : BitVec 1) (rd : Reg) (imm : BitVec 16) (s : State),
    (f.1 = 16 ∧ sign = 1 → Raises (f.2 sign rd imm) s .reservedInstruction) ∧
    (¬(f.1 = 16 ∧ sign = 1) →
      WritesLanes (f.2 sign rd imm) s rd f.1 fun _ => BitVec.ofInt f.1 ((imm.toNat : Int) - sign.toNat * 2 ^ 16))

/-- G.AAA and G.ASA: each lane is `d + c + b`, or `d - c + b`, modulo 2^size (45_group_arith.md rule R705). -/
def Obligations.GroupInPlace : Prop :=
  ∀ f ∈ inPlaceForms, ∀ (rd rc rb : Reg) (s : State),
    WritesLanes (f.2.2 rd rc rb) s rd f.1 fun k =>
      BitVec.ofInt f.1 (f.2.1 (laneOf s rd f.1 k).toInt (laneOf s rc f.1 k).toInt (laneOf s rb f.1 k).toInt)

/-- G.SHL.I.ADD and G.SHL.I.SUB: each lane is `c + b * 2^i`, or `b * 2^i - c`, modulo 2^size, for a count `i` of 1 to 4
(45_group_arith.md rule R706). -/
def Obligations.GroupShiftAdd : Prop :=
  ∀ f ∈ shiftAddForms, ∀ (rd rc rb : Reg) (amount : Nat) (s : State), 1 ≤ amount → amount ≤ 4 →
    WritesLanes (f.2.2 rd rc rb amount) s rd f.1 fun k =>
      BitVec.ofInt f.1 (f.2.1 (laneOf s rc f.1 k).toInt ((laneOf s rb f.1 k).toInt * 2 ^ amount))

/-- G.ADD.I and G.SUB.I: each lane is `c + imm`, or `imm - c`, modulo 2^size, the immediate a signed number
(46_group_immediate.md rules R801, R802 and R804, and R810 to R816 and R882 to R888 for the eight instructions). -/
def Obligations.GroupAddImmediate : Prop :=
  ∀ f ∈ addImmediateForms, ∀ (rd rc : Reg) (imm : BitVec 10) (s : State),
    WritesLanes (f.2.2 rd rc imm) s rd f.1 fun k => BitVec.ofInt f.1 (f.2.1 (laneOf s rc f.1 k).toInt imm.toInt)

/-- The group logic, bit by bit: bit `k` of the immediate operand is bit `k mod size` of the immediate, and its sign bit
beyond bit 9 (46_group_immediate.md rules R801 and R802). -/
def Obligations.GroupLogicImmediate : Prop :=
  ∀ f ∈ groupLogicForms, ∀ (rd rc : Reg) (imm : BitVec 10) (s : State), ∃ v : Hexlet,
    (∀ k < 128, v.getLsbD k = f.2.1 ((s.reg rc).getLsbD k) (imm.getLsbD (min (k % f.1) 9))) ∧
      Writes128 (f.2.2 rd rc imm) s rd v

/-- G.SET: a lane is all ones when the condition holds of the sign-extended immediate and the lane of `x[rc]`, the
immediate on the left, and all zeros when it does not (46_group_immediate.md rule R804). -/
def Obligations.GroupSetImmediate : Prop :=
  ∀ f ∈ groupSetForms, ∀ (rd rc : Reg) (imm : BitVec 10) (s : State), ∃ v : Hexlet,
    (∀ k < 128 / f.1,
      (Condition f.2.1 (imm.signExtend f.1) (laneOf s rc f.1 k) →
        v.extractLsb' (f.1 * k) f.1 = BitVec.ofInt f.1 (-1)) ∧
      (¬Condition f.2.1 (imm.signExtend f.1) (laneOf s rc f.1 k) →
        v.extractLsb' (f.1 * k) f.1 = BitVec.ofInt f.1 0)) ∧
      Writes128 (f.2.2 rd rc imm) s rd v

/-- The checked group forms: when the exact result of every lane fits, all lanes are written; when that of any lane does
not, "Fixed-point arithmetic" is raised and nothing is written.  The unsigned forms read the sign-extended immediate as
an unsigned number of the lane's size (46_group_immediate.md rule R803). -/
def Obligations.GroupChecked : Prop :=
  ∀ f ∈ groupCheckedForms, ∀ (rd rc : Reg) (imm : BitVec 10) (s : State) (t : Nat → Int),
    (∀ k, t k = if f.2.1 then f.2.2.1 (laneOf s rc f.1 k).toInt imm.toInt
      else f.2.2.1 (laneOf s rc f.1 k).toNat (imm.signExtend f.1).toNat) →
    ((∀ k < 128 / f.1, (if f.2.1 then -2 ^ (f.1 - 1) else 0) ≤ t k ∧
        t k < (if f.2.1 then 2 ^ (f.1 - 1) else 2 ^ f.1)) →
      WritesLanes (f.2.2.2 rd rc imm) s rd f.1 fun k => BitVec.ofInt f.1 (t k)) ∧
    ((∃ k < 128 / f.1, ¬((if f.2.1 then -2 ^ (f.1 - 1) else 0) ≤ t k ∧
        t k < (if f.2.1 then 2 ^ (f.1 - 1) else 2 ^ f.1))) →
      Raises (f.2.2.2 rd rc imm) s .fixedPointArithmetic)

/-! ### The whole machine -/

/-- EVERY STEP KEEPS THE INVARIANT: from any state with memory in canonical form (notes/assumptions/8.md) that lists none
but the 2^32 physical addresses (20_memory.md rule R107) and `pc` a multiple of 4 (10_state.md rule R50), whatever the
word fetched and the parameters, and also where the step takes an exception and goes on, a step that answers a state
answers one with all three. -/
def Obligations.StepKeepsInvariant : Prop := ∀ s t : State, s.Inv → step s = .next t → t.Inv

/-- WHAT RESET LEAVES.  The machine is not halted (70_reset_and_hazards.md rule R962), the level is 3 and `Thread` is 0, the
values the spec recommends, and so are those of the parameters (00_scope.md rule R7; notes/assumptions/14.md).  The rest
is the model's choice: the registers are 0 (notes/assumptions/4.md), `pc` is 0 (notes/assumptions/5.md),
`ExceptionState` and `ExceptionBase` are 0 (notes/assumptions/6.md), every byte of memory reads 0
(notes/assumptions/8.md), the operation-code map is the model's own and one that 30_encoding.md rule R134 allows
(notes/assumptions/1.md), every virtual address below 2^32 translates to itself in memory and no other translates
(notes/assumptions/7.md), no free value has been drawn (notes/assumptions/3.md), and a fetch can observe no earlier
contents (notes/assumptions/9.md).  The state satisfies the invariant. -/
def Obligations.ResetState : Prop :=
  State.reset.Inv ∧ State.reset.halted = false ∧ State.reset.privilegeLevel.toNat = 3 ∧ State.reset.thread = 0 ∧
    (∀ r : Reg, State.reset.reg r = 0) ∧ State.reset.pc = 0 ∧ State.reset.exceptionState = 0 ∧
    State.reset.exceptionBase = 0 ∧ (∀ a : Nat, State.reset.mem.read a = 0) ∧
    State.reset.params.nreg = 64 ∧ State.reset.params.opcodeMap = opcodeMap ∧ opcodeMap.valid = true ∧
    State.reset.params.fetchOrder = .little ∧ State.reset.params.upperWrite = .draw ∧
    (∀ (kind : AccessKind) (ba va : Octlet),
      (va.toNat < 2 ^ 32 → State.reset.translate kind ba va = .ok { transaction := .memory, address := va.toNat }) ∧
      (2 ^ 32 ≤ va.toNat → State.reset.translate kind ba va = .raised .disallowedByVirtualAddress)) ∧
    State.reset.params.trapEntry = .final ∧ State.reset.params.fpCompare = .ieee754 ∧
    State.reset.params.uoReading = .zextBoth ∧ State.reset.params.f1Const.toNat = 0x3F800000 ∧
    State.reset.params.compareWidth = .w128 ∧ State.reset.draws = 0 ∧ State.reset.stale = []

/-- Reset under any launch: registers, `pc`, level, `ExceptionBase`, `Thread`, memory and parameters are what the launcher
supplies (70_reset_and_hazards.md rules R962 and R964), the machine is not halted, and the state satisfies the invariant
if `ResetPC` is a multiple of 4 and the image lists physical addresses in canonical form (notes/assumptions/8.md).  `ExceptionState` 0, no
free value drawn and no earlier contents observable are the model's choice (notes/assumptions/6.md, 3.md and 9.md). -/
def Obligations.LaunchState : Prop :=
  ∀ l : Launch, (∀ r : Reg, (State.launch l).reg r = l.regs[r.toNat]'r.isLt) ∧ (State.launch l).pc = l.resetPC ∧
    (State.launch l).privilegeLevel = l.resetPL ∧ (State.launch l).exceptionBase = l.exceptionBase ∧
    (State.launch l).thread = l.thread ∧ (State.launch l).mem = l.image ∧ (State.launch l).params = l.params ∧
    (State.launch l).halted = false ∧ (State.launch l).exceptionState = 0 ∧ (State.launch l).draws = 0 ∧
    (State.launch l).stale = [] ∧
    (l.resetPC.toNat % 4 = 0 → l.image.wf = true → l.image.inSpace = true → (State.launch l).Inv)

/-- Memories in canonical form that read alike at every address are equal (notes/assumptions/8.md). -/
def Obligations.CanonicalMemoriesEqual : Prop :=
  ∀ m n : Memory, m.wf = true → n.wf = true → (∀ a, m.read a = n.read a) → m = n

/-- An instruction that completes and is none of the 52 stores leaves every byte of memory as it was, and what a fetch may
observe of it too, but for B.BARRIER (41_store.md, 44_store_atomic.md, 43_branch.md rule R506, 45_group_arith.md rule
R700). -/
def Obligations.OnlyStoresWriteMemory : Prop :=
  ∀ (i : Instr) (s t : State), isStore i = false → Completes i s t →
    t.mem = s.mem ∧ ((∀ rd rc rb, i ≠ .bBarrier rd rc rb) → t.stale = s.stale)

/-- Every register but the instruction's destination is unchanged when it completes (10_state.md rule R44). -/
def Obligations.RegisterFrame : Prop :=
  ∀ (i : Instr) (s t : State), Completes i s t → ∀ r : Reg, destination i ≠ some r → t.reg r = s.reg r

/-- Of the instructions that complete, the privilege level is raised by B.GATE only and lowered by B.DOWN and B.BACK only
(60_exceptions.md rule R921). -/
def Obligations.PrivilegeTransitions : Prop :=
  ∀ (i : Instr) (s t : State), Completes i s t →
    (s.privilegeLevel < t.privilegeLevel → ∃ rd rc rb, i = .bGate rd rc rb) ∧
    (t.privilegeLevel < s.privilegeLevel → ∃ rd rc rb, i = .bDown rd rc rb ∨ i = .bBack rd rc rb)

/-- No step changes `ExceptionBase`, `Thread` or a parameter (10_state.md rules R57 and R58); that trap entry changes none
of them either is the model's choice (notes/assumptions/10.md).  Of the instructions that complete, `ExceptionState` is
written by B.BACK only, which sets it to 0, and the machine is halted by B.HALT only (10_state.md rule R56,
60_exceptions.md rule R940). -/
def Obligations.SystemStateFrame : Prop :=
  (∀ s t : State, step s = .next t →
    t.exceptionBase = s.exceptionBase ∧ t.thread = s.thread ∧ t.params = s.params) ∧
  ∀ (i : Instr) (s t : State), Completes i s t →
    (t.exceptionState ≠ s.exceptionState → (∃ rd rc rb, i = .bBack rd rc rb) ∧ t.exceptionState = 0) ∧
    (t.halted ≠ s.halted → (∃ rd rc rb, i = .bHalt rd rc rb) ∧ t.halted = true)

/-- An instruction that completes, is none of the 36 that assign `pc` and not B.HALT is followed by the one at `pc + 4`,
and B.HALT leaves `pc` as it is (10_state.md rules R51 and R53). -/
def Obligations.NextInstruction : Prop :=
  ∀ (i : Instr) (s t : State), assignsPc i = false → Completes i s t →
    ((∃ rd rc rb, i = .bHalt rd rc rb) → t.pc = s.pc) ∧ ((∀ rd rc rb, i ≠ .bHalt rd rc rb) → t.pc = s.pc + 4#64)

/-- What the parameter `TrapEntry` changes and what it does not.  Trap entry sets the registers, a `pc` that is a multiple
of 4, the level, `ExceptionState`, and memory, which it keeps in canonical form and within the physical addresses, and
nothing else: the model's choice of what it may set (notes/assumptions/10.md).  Where the run goes on after an exception, every instruction completes just as
it does where an exception ends the run, is refused just as there, and where it would fault there it goes on in the state
of trap entry, entered from the state it found (60_exceptions.md rule R907). -/
def Obligations.TrapEntryContinues : Prop :=
  (∀ (s : State) (e : Exn), (s.enterTrap e).pc.toNat % 4 = 0 ∧
    (s.mem.wf = true → (s.enterTrap e).mem.wf = true) ∧ (s.mem.inSpace = true → (s.enterTrap e).mem.inSpace = true) ∧
    s.enterTrap e = { s with
      regs := (s.enterTrap e).regs, pc := (s.enterTrap e).pc, privilegeLevel := (s.enterTrap e).privilegeLevel
      exceptionState := (s.enterTrap e).exceptionState, mem := (s.enterTrap e).mem, stale := (s.enterTrap e).stale }) ∧
  ∀ (i : Instr) (s : State), s.params.trapEntry = .continues →
    (∀ t, exec i (withTrapEntry s .final) = .next t → exec i s = .next (withTrapEntry t .continues)) ∧
    (∀ (e : Exn) (pc : Octlet), exec i (withTrapEntry s .final) = .fault (.raised e pc) →
      exec i s = .next (s.enterTrap e)) ∧
    ∀ r : Refusal, exec i (withTrapEntry s .final) = .refused r → exec i s = .refused r

/-- How a run can stop: a fault, which there is only under the default of `TrapEntry`, names an exception and the address
of the instruction that raised it (60_exceptions.md rule R907); and the only refusals of an instruction are that of an
access past address 2^64 - 1, by a load, a store or B.BACK, and that of an access to an I/O address, by one of these or
B.GATE.  The second is the answer to every load, store, B.BACK, B.GATE and fetch all of whose bytes translate, one of them
to an I/O address (20_memory.md rules R105 and R107).  Both refusals are the model's choice
(notes/assumptions/19.md and 24.md). -/
def Obligations.HowRunsStop : Prop :=
  (∀ (s : State) (f : Fault), step s = .fault f → s.params.trapEntry = .final ∧ ∃ e, f = .raised e s.pc) ∧
  (∀ (i : Instr) (s : State) (r : Refusal), exec i s = .refused r →
    (r = .accessPastEnd ∧ (isLoad i = true ∨ isStore i = true ∨ ∃ rd rc rb, i = .bBack rd rc rb)) ∨
    (r = .ioTransaction ∧
      (isLoad i = true ∨ isStore i = true ∨ ∃ rd rc rb, i = .bBack rd rc rb ∨ i = .bGate rd rc rb))) ∧
  (∀ f ∈ loadForms, ∀ (rd rc : Reg) (p : Place) (s : State), (f.aligned = true → BaseAligned s rc f.size) →
    ReachesIO s .read (s.lo rc) (p.address s rc f.size) (f.size / 8) →
    exec (f.instr rd rc p) s = .refused .ioTransaction) ∧
  (∀ f ∈ storeForms ++ multiplexForms ++ addSwapForms ++ compareSwapForms ++ multiplexSwapForms,
    ∀ (rd rc : Reg) (p : Place) (s : State), (f.aligned = true → BaseAligned s rc f.size) →
    ReachesIO s .write (s.lo rc) (p.address s rc f.size) (f.size / 8) →
    exec (f.instr rd rc p) s = .refused .ioTransaction) ∧
  (∀ f ∈ doubleSwapForms, ∀ (rd rc rb : Reg) (s : State), BaseAligned s rc 64 → BaseAligned s rb 64 →
    (ReachesIO s .write (s.lo rc) (s.lo rc) 8 → exec (f.1 rd rc rb) s = .refused .ioTransaction) ∧
    ((∃ pa, s.Maps .write (s.lo rc) (s.lo rc) 8 pa) → ReachesIO s .write (s.lo rb) (s.lo rb) 8 →
      exec (f.1 rd rc rb) s = .refused .ioTransaction)) ∧
  ∀ s : State,
    (ReachesIO s .read s.exceptionBase (s.exceptionBase + s.thread * 128#64) 16 →
      exec (.bBack 0 0 0) s = .refused .ioTransaction) ∧
    (∀ rb : Reg, (s.lo 1).toNat % 8 = 0 → s.privilegeLevel.toNat < (s.lo rb).toNat % 4 →
      ReachesIO s .gateway (s.lo 1) (s.lo 1) 8 → exec (.bGate 0 1 rb) s = .refused .ioTransaction) ∧
    (s.halted = false → ReachesIO s .execute s.pc s.pc 4 → step s = .refused .ioTransaction)

/-- Which instruction raises which exception where an exception ends the run (and so where it does not:
`Obligations.TrapEntryContinues`): "Gateway disallowed" B.GATE only; "Fixed-point arithmetic" the checked forms
and A.COM only; "Reserved Instruction" A.RES, the seven register branches and G.COPY.I.16 only; an access exception
the loads, the stores, B.BACK, B.GATE, and the branches that test their target (60_exceptions.md rules R901 and R903). -/
def Obligations.ExceptionsByInstruction : Prop :=
  ∀ (i : Instr) (s : State) (e : Exn) (pc : Octlet), exec i s = .fault (.raised e pc) →
    match e with
    | .gatewayDisallowed => ∃ rd rc rb, i = .bGate rd rc rb
    | .fixedPointArithmetic => mayOverflow i = true
    | .reservedInstruction => mayBeReserved i = true
    | .access _ => isLoad i = true ∨ isStore i = true ∨ testsTarget i = true ∨
        ∃ rd rc rb, i = .bBack rd rc rb ∨ i = .bGate rd rc rb
end

