-- ==== Sys2Proof/Laws/State.lean ====
section
/-! SUPPORT. One lemma per field per update of the state, so that no proof unfolds a record update. -/

namespace Sys2Proof.Machine

@[simp] theorem State.setReg_regs (s : State) (r : Reg) (v : Hexlet) :
    (s.setReg r v).regs = s.regs.set r.toNat v r.isLt := rfl
@[simp] theorem State.setReg_pc (s : State) (r : Reg) (v : Hexlet) : (s.setReg r v).pc = s.pc := rfl
@[simp] theorem State.setReg_privilegeLevel (s : State) (r : Reg) (v : Hexlet) :
    (s.setReg r v).privilegeLevel = s.privilegeLevel := rfl
@[simp] theorem State.setReg_exceptionState (s : State) (r : Reg) (v : Hexlet) :
    (s.setReg r v).exceptionState = s.exceptionState := rfl
@[simp] theorem State.setReg_exceptionBase (s : State) (r : Reg) (v : Hexlet) :
    (s.setReg r v).exceptionBase = s.exceptionBase := rfl
@[simp] theorem State.setReg_thread (s : State) (r : Reg) (v : Hexlet) : (s.setReg r v).thread = s.thread := rfl
@[simp] theorem State.setReg_halted (s : State) (r : Reg) (v : Hexlet) : (s.setReg r v).halted = s.halted := rfl
@[simp] theorem State.setReg_mem (s : State) (r : Reg) (v : Hexlet) : (s.setReg r v).mem = s.mem := rfl
@[simp] theorem State.setReg_stale (s : State) (r : Reg) (v : Hexlet) : (s.setReg r v).stale = s.stale := rfl
@[simp] theorem State.setReg_draws (s : State) (r : Reg) (v : Hexlet) : (s.setReg r v).draws = s.draws := rfl
@[simp] theorem State.setReg_params (s : State) (r : Reg) (v : Hexlet) : (s.setReg r v).params = s.params := rfl

@[simp] theorem State.setReg64_regs (s : State) (r : Reg) (v : Octlet) :
    (s.setReg64 r v).regs = s.regs.set r.toNat (s.upperAfter r v ++ v) r.isLt := rfl
@[simp] theorem State.setReg64_pc (s : State) (r : Reg) (v : Octlet) : (s.setReg64 r v).pc = s.pc := rfl
@[simp] theorem State.setReg64_privilegeLevel (s : State) (r : Reg) (v : Octlet) :
    (s.setReg64 r v).privilegeLevel = s.privilegeLevel := rfl
@[simp] theorem State.setReg64_exceptionState (s : State) (r : Reg) (v : Octlet) :
    (s.setReg64 r v).exceptionState = s.exceptionState := rfl
@[simp] theorem State.setReg64_exceptionBase (s : State) (r : Reg) (v : Octlet) :
    (s.setReg64 r v).exceptionBase = s.exceptionBase := rfl
@[simp] theorem State.setReg64_thread (s : State) (r : Reg) (v : Octlet) : (s.setReg64 r v).thread = s.thread := rfl
@[simp] theorem State.setReg64_halted (s : State) (r : Reg) (v : Octlet) : (s.setReg64 r v).halted = s.halted := rfl
@[simp] theorem State.setReg64_mem (s : State) (r : Reg) (v : Octlet) : (s.setReg64 r v).mem = s.mem := rfl
@[simp] theorem State.setReg64_stale (s : State) (r : Reg) (v : Octlet) : (s.setReg64 r v).stale = s.stale := rfl
@[simp] theorem State.setReg64_draws (s : State) (r : Reg) (v : Octlet) : (s.setReg64 r v).draws = s.draws + 1 := rfl
@[simp] theorem State.setReg64_params (s : State) (r : Reg) (v : Octlet) : (s.setReg64 r v).params = s.params := rfl

@[simp] theorem State.advance_regs (s : State) : (s.advance).regs = s.regs := rfl
@[simp] theorem State.advance_pc (s : State) : (s.advance).pc = s.pc + 4#64 := rfl
@[simp] theorem State.advance_privilegeLevel (s : State) : (s.advance).privilegeLevel = s.privilegeLevel := rfl
@[simp] theorem State.advance_exceptionState (s : State) : (s.advance).exceptionState = s.exceptionState := rfl
@[simp] theorem State.advance_exceptionBase (s : State) : (s.advance).exceptionBase = s.exceptionBase := rfl
@[simp] theorem State.advance_thread (s : State) : (s.advance).thread = s.thread := rfl
@[simp] theorem State.advance_halted (s : State) : (s.advance).halted = s.halted := rfl
@[simp] theorem State.advance_mem (s : State) : (s.advance).mem = s.mem := rfl
@[simp] theorem State.advance_stale (s : State) : (s.advance).stale = s.stale := rfl
@[simp] theorem State.advance_draws (s : State) : (s.advance).draws = s.draws := rfl
@[simp] theorem State.advance_params (s : State) : (s.advance).params = s.params := rfl

@[simp] theorem State.jump_regs (s : State) (t : Octlet) : (s.jump t).regs = s.regs := rfl
@[simp] theorem State.jump_pc (s : State) (t : Octlet) : (s.jump t).pc = t := rfl
@[simp] theorem State.jump_privilegeLevel (s : State) (t : Octlet) :
    (s.jump t).privilegeLevel = s.privilegeLevel := rfl
@[simp] theorem State.jump_exceptionState (s : State) (t : Octlet) :
    (s.jump t).exceptionState = s.exceptionState := rfl
@[simp] theorem State.jump_exceptionBase (s : State) (t : Octlet) : (s.jump t).exceptionBase = s.exceptionBase := rfl
@[simp] theorem State.jump_thread (s : State) (t : Octlet) : (s.jump t).thread = s.thread := rfl
@[simp] theorem State.jump_halted (s : State) (t : Octlet) : (s.jump t).halted = s.halted := rfl
@[simp] theorem State.jump_mem (s : State) (t : Octlet) : (s.jump t).mem = s.mem := rfl
@[simp] theorem State.jump_stale (s : State) (t : Octlet) : (s.jump t).stale = s.stale := rfl
@[simp] theorem State.jump_draws (s : State) (t : Octlet) : (s.jump t).draws = s.draws := rfl
@[simp] theorem State.jump_params (s : State) (t : Octlet) : (s.jump t).params = s.params := rfl

@[simp] theorem State.lowerPrivilege_regs (s : State) (p : Level) : (s.lowerPrivilege p).regs = s.regs := rfl
@[simp] theorem State.lowerPrivilege_pc (s : State) (p : Level) : (s.lowerPrivilege p).pc = s.pc := rfl
@[simp] theorem State.lowerPrivilege_privilegeLevel (s : State) (p : Level) :
    (s.lowerPrivilege p).privilegeLevel = if p < s.privilegeLevel then p else s.privilegeLevel := rfl
@[simp] theorem State.lowerPrivilege_exceptionState (s : State) (p : Level) :
    (s.lowerPrivilege p).exceptionState = s.exceptionState := rfl
@[simp] theorem State.lowerPrivilege_exceptionBase (s : State) (p : Level) :
    (s.lowerPrivilege p).exceptionBase = s.exceptionBase := rfl
@[simp] theorem State.lowerPrivilege_thread (s : State) (p : Level) : (s.lowerPrivilege p).thread = s.thread := rfl
@[simp] theorem State.lowerPrivilege_halted (s : State) (p : Level) : (s.lowerPrivilege p).halted = s.halted := rfl
@[simp] theorem State.lowerPrivilege_mem (s : State) (p : Level) : (s.lowerPrivilege p).mem = s.mem := rfl
@[simp] theorem State.lowerPrivilege_stale (s : State) (p : Level) : (s.lowerPrivilege p).stale = s.stale := rfl
@[simp] theorem State.lowerPrivilege_draws (s : State) (p : Level) : (s.lowerPrivilege p).draws = s.draws := rfl
@[simp] theorem State.lowerPrivilege_params (s : State) (p : Level) : (s.lowerPrivilege p).params = s.params := rfl

@[simp] theorem State.setPrivilege_regs (s : State) (p : Level) : (s.setPrivilege p).regs = s.regs := rfl
@[simp] theorem State.setPrivilege_pc (s : State) (p : Level) : (s.setPrivilege p).pc = s.pc := rfl
@[simp] theorem State.setPrivilege_privilegeLevel (s : State) (p : Level) :
    (s.setPrivilege p).privilegeLevel = p := rfl
@[simp] theorem State.setPrivilege_exceptionState (s : State) (p : Level) :
    (s.setPrivilege p).exceptionState = s.exceptionState := rfl
@[simp] theorem State.setPrivilege_exceptionBase (s : State) (p : Level) :
    (s.setPrivilege p).exceptionBase = s.exceptionBase := rfl
@[simp] theorem State.setPrivilege_thread (s : State) (p : Level) : (s.setPrivilege p).thread = s.thread := rfl
@[simp] theorem State.setPrivilege_halted (s : State) (p : Level) : (s.setPrivilege p).halted = s.halted := rfl
@[simp] theorem State.setPrivilege_mem (s : State) (p : Level) : (s.setPrivilege p).mem = s.mem := rfl
@[simp] theorem State.setPrivilege_stale (s : State) (p : Level) : (s.setPrivilege p).stale = s.stale := rfl
@[simp] theorem State.setPrivilege_draws (s : State) (p : Level) : (s.setPrivilege p).draws = s.draws := rfl
@[simp] theorem State.setPrivilege_params (s : State) (p : Level) : (s.setPrivilege p).params = s.params := rfl

@[simp] theorem State.clearExceptionState_regs (s : State) : (s.clearExceptionState).regs = s.regs := rfl
@[simp] theorem State.clearExceptionState_pc (s : State) : (s.clearExceptionState).pc = s.pc := rfl
@[simp] theorem State.clearExceptionState_privilegeLevel (s : State) :
    (s.clearExceptionState).privilegeLevel = s.privilegeLevel := rfl
@[simp] theorem State.clearExceptionState_exceptionState (s : State) :
    (s.clearExceptionState).exceptionState = 0 := rfl
@[simp] theorem State.clearExceptionState_exceptionBase (s : State) :
    (s.clearExceptionState).exceptionBase = s.exceptionBase := rfl
@[simp] theorem State.clearExceptionState_thread (s : State) : (s.clearExceptionState).thread = s.thread := rfl
@[simp] theorem State.clearExceptionState_halted (s : State) : (s.clearExceptionState).halted = s.halted := rfl
@[simp] theorem State.clearExceptionState_mem (s : State) : (s.clearExceptionState).mem = s.mem := rfl
@[simp] theorem State.clearExceptionState_stale (s : State) : (s.clearExceptionState).stale = s.stale := rfl
@[simp] theorem State.clearExceptionState_draws (s : State) : (s.clearExceptionState).draws = s.draws := rfl
@[simp] theorem State.clearExceptionState_params (s : State) : (s.clearExceptionState).params = s.params := rfl

@[simp] theorem State.halt_regs (s : State) : (s.halt).regs = s.regs := rfl
@[simp] theorem State.halt_pc (s : State) : (s.halt).pc = s.pc := rfl
@[simp] theorem State.halt_privilegeLevel (s : State) : (s.halt).privilegeLevel = s.privilegeLevel := rfl
@[simp] theorem State.halt_exceptionState (s : State) : (s.halt).exceptionState = s.exceptionState := rfl
@[simp] theorem State.halt_exceptionBase (s : State) : (s.halt).exceptionBase = s.exceptionBase := rfl
@[simp] theorem State.halt_thread (s : State) : (s.halt).thread = s.thread := rfl
@[simp] theorem State.halt_halted (s : State) : (s.halt).halted = true := rfl
@[simp] theorem State.halt_mem (s : State) : (s.halt).mem = s.mem := rfl
@[simp] theorem State.halt_stale (s : State) : (s.halt).stale = s.stale := rfl
@[simp] theorem State.halt_draws (s : State) : (s.halt).draws = s.draws := rfl
@[simp] theorem State.halt_params (s : State) : (s.halt).params = s.params := rfl

@[simp] theorem State.storeByte_regs (s : State) (a : Nat) (v : Byte) : (s.storeByte a v).regs = s.regs := rfl
@[simp] theorem State.storeByte_pc (s : State) (a : Nat) (v : Byte) : (s.storeByte a v).pc = s.pc := rfl
@[simp] theorem State.storeByte_privilegeLevel (s : State) (a : Nat) (v : Byte) :
    (s.storeByte a v).privilegeLevel = s.privilegeLevel := rfl
@[simp] theorem State.storeByte_exceptionState (s : State) (a : Nat) (v : Byte) :
    (s.storeByte a v).exceptionState = s.exceptionState := rfl
@[simp] theorem State.storeByte_exceptionBase (s : State) (a : Nat) (v : Byte) :
    (s.storeByte a v).exceptionBase = s.exceptionBase := rfl
@[simp] theorem State.storeByte_thread (s : State) (a : Nat) (v : Byte) : (s.storeByte a v).thread = s.thread := rfl
@[simp] theorem State.storeByte_halted (s : State) (a : Nat) (v : Byte) : (s.storeByte a v).halted = s.halted := rfl
@[simp] theorem State.storeByte_mem (s : State) (a : Nat) (v : Byte) : (s.storeByte a v).mem = s.mem.write a v := rfl
@[simp] theorem State.storeByte_stale (s : State) (a : Nat) (v : Byte) :
    (s.storeByte a v).stale = (a, s.mem.read a) :: s.stale := rfl
@[simp] theorem State.storeByte_draws (s : State) (a : Nat) (v : Byte) : (s.storeByte a v).draws = s.draws := rfl
@[simp] theorem State.storeByte_params (s : State) (a : Nat) (v : Byte) : (s.storeByte a v).params = s.params := rfl

@[simp] theorem State.fetchBarrier_regs (s : State) : (s.fetchBarrier).regs = s.regs := rfl
@[simp] theorem State.fetchBarrier_pc (s : State) : (s.fetchBarrier).pc = s.pc := rfl
@[simp] theorem State.fetchBarrier_privilegeLevel (s : State) :
    (s.fetchBarrier).privilegeLevel = s.privilegeLevel := rfl
@[simp] theorem State.fetchBarrier_exceptionState (s : State) :
    (s.fetchBarrier).exceptionState = s.exceptionState := rfl
@[simp] theorem State.fetchBarrier_exceptionBase (s : State) : (s.fetchBarrier).exceptionBase = s.exceptionBase := rfl
@[simp] theorem State.fetchBarrier_thread (s : State) : (s.fetchBarrier).thread = s.thread := rfl
@[simp] theorem State.fetchBarrier_halted (s : State) : (s.fetchBarrier).halted = s.halted := rfl
@[simp] theorem State.fetchBarrier_mem (s : State) : (s.fetchBarrier).mem = s.mem := rfl
@[simp] theorem State.fetchBarrier_stale (s : State) : (s.fetchBarrier).stale = [] := rfl
@[simp] theorem State.fetchBarrier_draws (s : State) : (s.fetchBarrier).draws = s.draws := rfl
@[simp] theorem State.fetchBarrier_params (s : State) : (s.fetchBarrier).params = s.params := rfl

@[simp] theorem State.drawnAfterFetch_regs (s : State) (pas : List Nat) : (s.drawnAfterFetch pas).regs = s.regs := rfl
@[simp] theorem State.drawnAfterFetch_pc (s : State) (pas : List Nat) : (s.drawnAfterFetch pas).pc = s.pc := rfl
@[simp] theorem State.drawnAfterFetch_privilegeLevel (s : State) (pas : List Nat) :
    (s.drawnAfterFetch pas).privilegeLevel = s.privilegeLevel := rfl
@[simp] theorem State.drawnAfterFetch_exceptionState (s : State) (pas : List Nat) :
    (s.drawnAfterFetch pas).exceptionState = s.exceptionState := rfl
@[simp] theorem State.drawnAfterFetch_exceptionBase (s : State) (pas : List Nat) :
    (s.drawnAfterFetch pas).exceptionBase = s.exceptionBase := rfl
@[simp] theorem State.drawnAfterFetch_thread (s : State) (pas : List Nat) :
    (s.drawnAfterFetch pas).thread = s.thread := rfl
@[simp] theorem State.drawnAfterFetch_halted (s : State) (pas : List Nat) :
    (s.drawnAfterFetch pas).halted = s.halted := rfl
@[simp] theorem State.drawnAfterFetch_mem (s : State) (pas : List Nat) : (s.drawnAfterFetch pas).mem = s.mem := rfl
@[simp] theorem State.drawnAfterFetch_stale (s : State) (pas : List Nat) :
    (s.drawnAfterFetch pas).stale = s.stale := rfl
@[simp] theorem State.drawnAfterFetch_draws (s : State) (pas : List Nat) :
    (s.drawnAfterFetch pas).draws = if pas.all fun a => s.staleAt a = [] then s.draws else s.draws + 4 := rfl
@[simp] theorem State.drawnAfterFetch_params (s : State) (pas : List Nat) :
    (s.drawnAfterFetch pas).params = s.params := rfl

@[simp] theorem State.launchByte_regs (s : State) (a : Nat) (v : Byte) : (s.launchByte a v).regs = s.regs := rfl
@[simp] theorem State.launchByte_pc (s : State) (a : Nat) (v : Byte) : (s.launchByte a v).pc = s.pc := rfl
@[simp] theorem State.launchByte_privilegeLevel (s : State) (a : Nat) (v : Byte) :
    (s.launchByte a v).privilegeLevel = s.privilegeLevel := rfl
@[simp] theorem State.launchByte_exceptionState (s : State) (a : Nat) (v : Byte) :
    (s.launchByte a v).exceptionState = s.exceptionState := rfl
@[simp] theorem State.launchByte_exceptionBase (s : State) (a : Nat) (v : Byte) :
    (s.launchByte a v).exceptionBase = s.exceptionBase := rfl
@[simp] theorem State.launchByte_thread (s : State) (a : Nat) (v : Byte) : (s.launchByte a v).thread = s.thread := rfl
@[simp] theorem State.launchByte_halted (s : State) (a : Nat) (v : Byte) : (s.launchByte a v).halted = s.halted := rfl
@[simp] theorem State.launchByte_mem (s : State) (a : Nat) (v : Byte) :
    (s.launchByte a v).mem = s.mem.write a v := rfl
@[simp] theorem State.launchByte_stale (s : State) (a : Nat) (v : Byte) :
    (s.launchByte a v).stale = s.stale.filter fun c => c.1 ≠ a := rfl
@[simp] theorem State.launchByte_draws (s : State) (a : Nat) (v : Byte) : (s.launchByte a v).draws = s.draws := rfl
@[simp] theorem State.launchByte_params (s : State) (a : Nat) (v : Byte) : (s.launchByte a v).params = s.params := rfl

/-! ### Registers read after a write -/

/-- Reading a register after a 128-bit write. -/
theorem State.reg_setReg (s : State) (r q : Reg) (v : Hexlet) :
    (s.setReg r v).reg q = if q = r then v else s.reg q := by
  unfold State.reg
  simp only [State.setReg_regs]
  rw [Vector.getElem_set]
  by_cases h : q = r
  · subst h; simp
  · have h' : ¬ r.toNat = q.toNat := fun e => h (BitVec.eq_of_toNat_eq e.symm)
    simp [h, h']

@[simp] theorem State.reg_setReg_same (s : State) (r : Reg) (v : Hexlet) : (s.setReg r v).reg r = v := by
  simp [State.reg_setReg]

theorem State.reg_setReg_ne (s : State) {r q : Reg} (v : Hexlet) (h : q ≠ r) : (s.setReg r v).reg q = s.reg q := by
  simp [State.reg_setReg, h]

/-- Reading a register after a 64-bit write. -/
theorem State.reg_setReg64 (s : State) (r q : Reg) (v : Octlet) :
    (s.setReg64 r v).reg q = if q = r then s.upperAfter r v ++ v else s.reg q :=
  State.reg_setReg s r q _

/-- The low half of `u ++ v` is `v`. -/
@[simp] theorem setWidth_append_low (u v : Octlet) : (u ++ v).setWidth 64 = v := by
  apply BitVec.eq_of_getLsbD_eq
  intro i hi
  have h : (u ++ v).getLsbD i = if i < 64 then v.getLsbD i else u.getLsbD (i - 64) := BitVec.getLsbD_append
  rw [BitVec.getLsbD_setWidth, h]
  simp [hi]

/-- The high half of `u ++ v` is `u`. -/
@[simp] theorem extractLsb'_append_high (u v : Octlet) : (u ++ v).extractLsb' 64 64 = u := by
  apply BitVec.eq_of_getLsbD_eq
  intro i hi
  have h : (u ++ v).getLsbD (64 + i) = if 64 + i < 64 then v.getLsbD (64 + i) else u.getLsbD (64 + i - 64) :=
    BitVec.getLsbD_append
  rw [BitVec.getLsbD_extractLsb', h]
  simp [hi]

@[simp] theorem State.lo_setReg64_same (s : State) (r : Reg) (v : Octlet) : (s.setReg64 r v).lo r = v := by
  simp [State.lo, State.reg_setReg64]

@[simp] theorem State.hi_setReg64_same (s : State) (r : Reg) (v : Octlet) :
    (s.setReg64 r v).hi r = s.upperAfter r v := by
  simp [State.hi, State.reg_setReg64]

theorem State.reg_setReg64_ne (s : State) {r q : Reg} (v : Octlet) (h : q ≠ r) :
    (s.setReg64 r v).reg q = s.reg q := by
  simp [State.reg_setReg64, h]

/-! ### Registers under the updates that write none -/

@[simp] theorem State.reg_advance (s : State) (q : Reg) : s.advance.reg q = s.reg q := rfl
@[simp] theorem State.reg_jump (s : State) (t : Octlet) (q : Reg) : (s.jump t).reg q = s.reg q := rfl
@[simp] theorem State.reg_lowerPrivilege (s : State) (p : Level) (q : Reg) :
    (s.lowerPrivilege p).reg q = s.reg q := rfl
@[simp] theorem State.reg_setPrivilege (s : State) (p : Level) (q : Reg) : (s.setPrivilege p).reg q = s.reg q := rfl
@[simp] theorem State.reg_clearExceptionState (s : State) (q : Reg) : s.clearExceptionState.reg q = s.reg q := rfl
@[simp] theorem State.reg_halt (s : State) (q : Reg) : s.halt.reg q = s.reg q := rfl
@[simp] theorem State.reg_storeByte (s : State) (a : Nat) (v : Byte) (q : Reg) : (s.storeByte a v).reg q = s.reg q := rfl
@[simp] theorem State.reg_fetchBarrier (s : State) (q : Reg) : s.fetchBarrier.reg q = s.reg q := rfl
@[simp] theorem State.reg_drawnAfterFetch (s : State) (pas : List Nat) (q : Reg) :
    (s.drawnAfterFetch pas).reg q = s.reg q := rfl

end Sys2Proof.Machine
end

