-- ==== Sys2Proof/Laws/Memory.lean ====
section
/-! SUPPORT. Memory: a read after a write, and that every memory operation keeps the canonical form. -/

namespace Sys2Proof.Machine

/-! ### Cells -/

/-- An address that no cell lists reads as the unlisted value. -/
theorem readCells_of_absent {cs : List Host.Cell} {a : Nat} (h : ∀ c ∈ cs, c.1 ≠ a) :
    readCells cs a = Memory.unlisted := by
  induction cs with
  | nil => rfl
  | cons c cs ih =>
    simp only [readCells, if_neg (h c (by simp))]
    exact ih fun d hd => h d (by simp [hd])

/-- Dropping the cells of one address leaves every other address as it was. -/
theorem readCells_filter_ne (cs : List Host.Cell) {a b : Nat} (h : b ≠ a) :
    readCells (cs.filter fun c => c.1 ≠ a) b = readCells cs b := by
  induction cs with
  | nil => rfl
  | cons c cs ih =>
    by_cases hc : c.1 = a
    · have hb : c.1 ≠ b := fun e => h (e.symm.trans hc)
      simp only [List.filter_cons, hc, ne_eq, not_true, decide_false, readCells, if_neg (Ne.symm h)]
      simpa [readCells] using ih
    · simp only [List.filter_cons, ne_eq, hc, not_false_eq_true, decide_true, if_true, readCells]
      by_cases hb : c.1 = b
      · simp [hb]
      · simpa [hb] using ih

/-- Reading where a cell has been put in. -/
theorem readCells_insertCell (cs : List Host.Cell) {a b : Nat} (v : Byte) (h : ∀ c ∈ cs, c.1 ≠ a) :
    readCells (insertCell a v cs) b = if b = a then v else readCells cs b := by
  induction cs with
  | nil => simp only [insertCell, readCells, eq_comm (a := a)]
  | cons c cs ih =>
    have hca : c.1 ≠ a := h c (by simp)
    have ih := ih fun d hd => h d (by simp [hd])
    by_cases hlt : a < c.1
    · simp only [insertCell, if_pos hlt, readCells, eq_comm (a := a) (b := b)]
    · simp only [insertCell, if_neg hlt, readCells, ih]
      by_cases hb : b = a
      · subst hb; simp [hca]
      · simp [hb]

/-- Every cell after a put-in cell is that cell or an old one. -/
theorem mem_insertCell {cs : List Host.Cell} {a : Nat} {v : Byte} {c : Host.Cell} (h : c ∈ insertCell a v cs) :
    c = (a, v) ∨ c ∈ cs := by
  induction cs with
  | nil => simpa [insertCell] using h
  | cons d cs ih =>
    by_cases hlt : a < d.1
    · simp only [insertCell, if_pos hlt, List.mem_cons] at h ⊢
      exact h
    · simp only [insertCell, if_neg hlt, List.mem_cons] at h ⊢
      rcases h with h | h
      · exact .inr (.inl h)
      · exact (ih h).imp_right .inr

/-- A cell put into a canonical list that does not list its address leaves a canonical list. -/
theorem canonical_insertCell {cs : List Host.Cell} {a : Nat} {v : Byte} (hv : v ≠ Memory.unlisted)
    (h : ∀ c ∈ cs, c.1 ≠ a) (hc : canonical cs = true) : canonical (insertCell a v cs) = true := by
  induction cs with
  | nil => simp [insertCell, canonical, hv]
  | cons d cs ih =>
    simp only [canonical, Bool.and_eq_true, bne_iff_ne, List.all_eq_true, decide_eq_true_eq] at hc
    obtain ⟨⟨hd, hall⟩, hcs⟩ := hc
    have hda : d.1 ≠ a := h d (by simp)
    by_cases hlt : a < d.1
    · simp only [insertCell, if_pos hlt, canonical, Bool.and_eq_true, bne_iff_ne, List.all_eq_true,
        decide_eq_true_eq, List.mem_cons]
      refine ⟨⟨hv, ?_⟩, ⟨hd, hall⟩, hcs⟩
      rintro e (rfl | he)
      · exact hlt
      · exact lt_trans hlt (hall e he)
    · simp only [insertCell, if_neg hlt, canonical, Bool.and_eq_true, bne_iff_ne, List.all_eq_true,
        decide_eq_true_eq]
      refine ⟨⟨hd, ?_⟩, ih (fun e he => h e (by simp [he])) hcs⟩
      intro e he
      rcases mem_insertCell he with rfl | he
      · show d.1 < a
        omega
      · exact hall e he

/-- Dropping cells leaves a canonical list. -/
theorem canonical_filter {cs : List Host.Cell} (p : Host.Cell → Bool) (hc : canonical cs = true) :
    canonical (cs.filter p) = true := by
  induction cs with
  | nil => rfl
  | cons d cs ih =>
    simp only [canonical, Bool.and_eq_true, bne_iff_ne, List.all_eq_true, decide_eq_true_eq] at hc
    obtain ⟨⟨hd, hall⟩, hcs⟩ := hc
    cases hp : p d
    · simpa [List.filter_cons, hp] using ih hcs
    · simp only [List.filter_cons, hp, if_true, canonical, Bool.and_eq_true, bne_iff_ne, List.all_eq_true,
        decide_eq_true_eq]
      exact ⟨⟨hd, fun e he => hall e (List.mem_filter.1 he).1⟩, ih hcs⟩

/-! ### Memory -/

/-- A byte read after a byte written. -/
theorem Memory.read_write (m : Memory) (a b : Nat) (v : Byte) :
    (m.write a v).read b = if b = a then v else m.read b := by
  have habs : ∀ c ∈ m.cells.filter (fun c => c.1 ≠ a), c.1 ≠ a := by
    intro c hc
    simpa using (List.mem_filter.1 hc).2
  simp only [Memory.read, Memory.write]
  by_cases hv : v = Memory.unlisted
  · rw [if_pos hv]
    by_cases hb : b = a
    · rw [if_pos hb, hb, readCells_of_absent habs, hv]
    · rw [if_neg hb, readCells_filter_ne _ hb]
  · rw [if_neg hv, readCells_insertCell _ v habs]
    by_cases hb : b = a
    · simp [hb]
    · rw [if_neg hb, if_neg hb, readCells_filter_ne _ hb]

@[simp] theorem Memory.read_write_same (m : Memory) (a : Nat) (v : Byte) : (m.write a v).read a = v := by
  simp [Memory.read_write]

theorem Memory.read_write_ne (m : Memory) {a b : Nat} (v : Byte) (h : b ≠ a) : (m.write a v).read b = m.read b := by
  simp [Memory.read_write, h]

/-- A write keeps the canonical form. -/
theorem Memory.wf_write {m : Memory} (h : m.wf = true) (a : Nat) (v : Byte) : (m.write a v).wf = true := by
  have habs : ∀ c ∈ m.cells.filter (fun c => c.1 ≠ a), c.1 ≠ a := by
    intro c hc
    simpa using (List.mem_filter.1 hc).2
  have hf : canonical (m.cells.filter fun c => c.1 ≠ a) = true := canonical_filter _ h
  simp only [Memory.wf, Memory.write]
  by_cases hv : v = Memory.unlisted
  · rw [if_pos hv]
    exact hf
  · rw [if_neg hv]
    exact canonical_insertCell hv habs hf

/-- A write at a physical address leaves a memory that lists physical addresses only. -/
theorem Memory.inSpace_write {m : Memory} (h : m.inSpace = true) {a : Nat} (ha : a < physicalSpace) (v : Byte) :
    (m.write a v).inSpace = true := by
  have hf : ∀ c ∈ m.cells.filter (fun c => c.1 ≠ a), c.1 < physicalSpace := by
    intro c hc
    have := List.all_eq_true.1 h c (List.mem_filter.1 hc).1
    simpa using this
  simp only [Memory.inSpace, Memory.write, List.all_eq_true, decide_eq_true_eq]
  split
  · exact hf
  · intro c hc
    rcases mem_insertCell hc with rfl | hc
    · exact ha
    · exact hf c hc

/-- Memory with nothing listed is canonical. -/
theorem Memory.wf_empty : Memory.empty.wf = true := rfl

/-- Memory with nothing listed lists physical addresses only. -/
theorem Memory.inSpace_empty : Memory.empty.inSpace = true := rfl

/-- The memory of the reset state is canonical. -/
theorem State.reset_mem_wf : State.reset.mem.wf = true := rfl

/-- Reset leaves memory as the launcher supplies it. -/
@[simp] theorem State.launch_mem (l : Launch) : (State.launch l).mem = l.image := rfl

/-- Every byte of empty memory is the unlisted value. -/
@[simp] theorem Memory.read_empty (a : Nat) : Memory.empty.read a = Memory.unlisted := rfl

/-! ### Bytes stored -/

/-- Storing bytes changes memory, the list of old contents, and nothing else. -/
theorem State.storeBytes_frame (s : State) (pas : List Nat) (vs : List Byte) :
    s.storeBytes pas vs = { s with mem := (s.storeBytes pas vs).mem, stale := (s.storeBytes pas vs).stale } := by
  induction pas generalizing s vs with
  | nil => cases vs <;> rfl
  | cons pa pas ih =>
    cases vs with
    | nil => rfl
    | cons v vs =>
      have h := ih (s.storeByte pa v) vs
      simp only [State.storeBytes] at h ⊢
      exact h

/-- Storing bytes keeps the canonical form. -/
theorem State.storeBytes_wf (s : State) (pas : List Nat) (vs : List Byte) (h : s.mem.wf = true) :
    (s.storeBytes pas vs).mem.wf = true := by
  induction pas generalizing s vs with
  | nil => cases vs <;> exact h
  | cons pa pas ih =>
    cases vs with
    | nil => exact h
    | cons v vs => exact ih (s.storeByte pa v) vs (Memory.wf_write h pa v)

/-- Storing bytes at physical addresses leaves a memory that lists physical addresses only. -/
theorem State.storeBytes_inSpace (s : State) (pas : List Nat) (vs : List Byte) (h : s.mem.inSpace = true)
    (hp : ∀ a ∈ pas, a < physicalSpace) : (s.storeBytes pas vs).mem.inSpace = true := by
  induction pas generalizing s vs with
  | nil => cases vs <;> exact h
  | cons pa pas ih =>
    cases vs with
    | nil => exact h
    | cons v vs =>
      exact ih (s.storeByte pa v) vs (Memory.inSpace_write h (hp pa (by simp)) v) fun a ha => hp a (by simp [ha])

/-- An address where no byte is stored keeps its contents. -/
theorem State.read_storeBytes_of_absent (s : State) (pas : List Nat) (vs : List Byte) {a : Nat} (h : a ∉ pas) :
    (s.storeBytes pas vs).mem.read a = s.mem.read a := by
  induction pas generalizing s vs with
  | nil => cases vs <;> rfl
  | cons pa pas ih =>
    cases vs with
    | nil => rfl
    | cons v vs =>
      simp only [List.mem_cons, not_or] at h
      rw [State.storeBytes, ih (s.storeByte pa v) vs h.2]
      exact Memory.read_write_ne _ v h.1

/-- The `k`-th address reads as the `k`-th byte, if no later address is the same. -/
theorem State.read_storeBytes (s : State) (n : Nat) (pa : Nat → Nat) (v : Nat → Byte) {k : Nat} (hk : k < n)
    (hlast : ∀ j < n, k < j → pa j ≠ pa k) :
    (s.storeBytes ((List.range n).map pa) ((List.range n).map v)).mem.read (pa k) = v k := by
  induction n generalizing s pa v k with
  | zero => omega
  | succ n ih =>
    rw [List.range_succ_eq_map, List.map_cons, List.map_cons, List.map_map, List.map_map, State.storeBytes]
    cases k with
    | zero =>
      rw [State.read_storeBytes_of_absent]
      · exact Memory.read_write_same _ _ _
      · simp only [List.mem_map, List.mem_range, not_exists, not_and]
        exact fun j hj => hlast (j + 1) (by omega) (by omega)
    | succ k =>
      exact ih (s.storeByte (pa 0) (v 0)) (pa ∘ Nat.succ) (v ∘ Nat.succ) (k := k) (by omega) fun j hj hkj =>
        hlast (j + 1) (by omega) (by omega)

/-- Storing cells changes memory, the list of old contents, and nothing else. -/
theorem State.storeCells_frame (s : State) (cs : List (BitVec 32 × Byte)) :
    s.storeCells cs = { s with mem := (s.storeCells cs).mem, stale := (s.storeCells cs).stale } := by
  induction cs generalizing s with
  | nil => rfl
  | cons c cs ih =>
    rw [State.storeCells, ih]
    rfl

/-- Storing cells leaves a memory that lists physical addresses only. -/
theorem State.storeCells_inSpace (s : State) (cs : List (BitVec 32 × Byte)) (h : s.mem.inSpace = true) :
    (s.storeCells cs).mem.inSpace = true := by
  induction cs generalizing s with
  | nil => exact h
  | cons c cs ih => exact ih _ (Memory.inSpace_write h c.1.isLt _)

/-- Storing cells keeps the canonical form. -/
theorem State.storeCells_wf (s : State) (cs : List (BitVec 32 × Byte)) (h : s.mem.wf = true) :
    (s.storeCells cs).mem.wf = true := by
  induction cs generalizing s with
  | nil => exact h
  | cons c cs ih => exact ih _ (Memory.wf_write h _ _)

/-- A store keeps the canonical form. -/
theorem State.storeMemory_wf {s t : State} {ba va : Octlet} {size : Nat} {ord : ByteOrder} {data : BitVec size}
    (h : s.storeMemory ba va size ord data = .ok t) (hw : s.mem.wf = true) : t.mem.wf = true := by
  unfold State.storeMemory at h
  split at h
  · cases h
    exact State.storeBytes_wf _ _ _ hw
  · cases h
  · cases h

/-- Placing a program's bytes keeps the canonical form. -/
theorem State.launchBytes_wf (s : State) (pas : List Nat) (vs : List Byte) (h : s.mem.wf = true) :
    (s.launchBytes pas vs).mem.wf = true := by
  induction pas generalizing s vs with
  | nil => cases vs <;> exact h
  | cons pa pas ih =>
    cases vs with
    | nil => exact h
    | cons v vs => exact ih (s.launchByte pa v) vs (Memory.wf_write h pa v)

/-- Placing a program's bytes at physical addresses leaves a memory that lists physical addresses only. -/
theorem State.launchBytes_inSpace (s : State) (pas : List Nat) (vs : List Byte) (h : s.mem.inSpace = true)
    (hp : ∀ a ∈ pas, a < physicalSpace) : (s.launchBytes pas vs).mem.inSpace = true := by
  induction pas generalizing s vs with
  | nil => cases vs <;> exact h
  | cons pa pas ih =>
    cases vs with
    | nil => exact h
    | cons v vs =>
      exact ih (s.launchByte pa v) vs (Memory.inSpace_write h (hp pa (by simp)) v) fun a ha => hp a (by simp [ha])

/-- Placing an instruction word keeps the canonical form. -/
theorem State.withFetchWord_wf (s : State) (nbits w : Nat) (h : s.mem.wf = true) :
    (s.withFetchWord nbits w).mem.wf = true := by
  unfold State.withFetchWord State.placeWord
  split
  · split
    · exact State.launchBytes_wf _ _ _ h
    · exact h
    · exact h
  · exact h

end Sys2Proof.Machine
end

