-- ==== Sys2Proof/Laws/Ops.lean ====
section
/-! SUPPORT. One lemma for each shared operation over memory, saying what it answers and when, and one for each shared
body of the loads and stores: what is cited where the operation would otherwise be unfolded. -/

namespace Sys2Proof.Machine

/-! ### Taking an exception -/

/-- Under the default of `TrapEntry` a raised exception ends the run. -/
theorem State.raiseExn_final {s : State} (h : s.params.trapEntry = .final) (e : Exn) :
    s.raiseExn e = .fault (.raised e s.pc) := by
  simp [State.raiseExn, h]

/-- Otherwise it continues in the state of trap entry. -/
theorem State.raiseExn_continues {s : State} (h : s.params.trapEntry = .continues) (e : Exn) :
    s.raiseExn e = .next (s.enterTrap e) := by
  simp [State.raiseExn, h]

/-- What a raised exception that answers a state has done. -/
theorem State.raiseExn_eq_next {s t : State} {e : Exn} (h : s.raiseExn e = .next t) :
    s.params.trapEntry = .continues ∧ t = s.enterTrap e := by
  unfold State.raiseExn at h
  split at h
  · cases h
  · rename_i hc
    cases h
    exact ⟨hc, rfl⟩

/-- Under the default of `TrapEntry` no state follows an exception. -/
theorem State.not_trapped_of_final {s t : State} (h : s.params.trapEntry = .final) : ¬s.Trapped t := by
  rintro ⟨e, he⟩
  rw [State.raiseExn_final h] at he
  cases he

/-- A raised exception is no refusal. -/
theorem State.raiseExn_ne_refused (s : State) (e : Exn) (r : Refusal) : s.raiseExn e ≠ .refused r := by
  unfold State.raiseExn
  split <;> exact fun h => by cases h

/-- What trap entry does: the registers, the level, `ExceptionState` and `pc` are the parameter's, memory and what a fetch
may observe of it change by its stores, and nothing else changes. -/
theorem State.enterTrap_frame (s : State) (e : Exn) :
    s.enterTrap e = { s with
      regs := (Config.trapEntry e s).regs, pc := (Config.trapEntry e s).handler ++ 0#2
      privilegeLevel := (Config.trapEntry e s).privilegeLevel
      exceptionState := (Config.trapEntry e s).exceptionState
      mem := (s.enterTrap e).mem, stale := (s.enterTrap e).stale } := by
  unfold State.enterTrap
  rw [State.storeCells_frame]

/-- A state that follows an exception satisfies the invariant if memory did in the one it was raised in. -/
theorem State.Trapped.inv {s t : State} (h : s.Trapped t) (hw : s.mem.wf = true) (hs : s.mem.inSpace = true) :
    t.Inv := by
  obtain ⟨e, he⟩ := h
  obtain ⟨-, rfl⟩ := State.raiseExn_eq_next he
  refine ⟨State.storeCells_wf _ _ hw, State.storeCells_inSpace _ _ hs, ?_⟩
  rw [State.enterTrap_frame]
  apply BitVec.eq_of_getLsbD_eq
  intro i hi
  rw [BitVec.getLsbD_setWidth, BitVec.getLsbD_append]
  simp [hi]

/-! ### The functions of `FPCompare` -/

/-- The functions under IEEE 754. -/
theorem State.fp_ieee754 {s : State} (h : s.params.fpCompare = .ieee754) :
    s.fp = { decode := FpFormat.decode, compare := FpNumber.compare, abs := FpNumber.abs } := by
  rw [State.fp, h]
  rfl

/-- The free functions. -/
theorem State.fp_abstract {s : State} (h : s.params.fpCompare = .abstract) :
    s.fp = { decode := fun f v => Config.fpDecode f.size (v.setWidth f.size)
             compare := Config.fpCompare
             abs := Config.fpAbs } := by
  rw [State.fp, h]
  rfl

/-! ### Accesses -/

@[simp] theorem Access.andThen_ok {α : Type} (a : α) (s : State) (k : α → Result) :
    (Access.ok a).andThen s k = k a := rfl

@[simp] theorem Access.andThen_raised {α : Type} (e : AccessFault) (s : State) (k : α → Result) :
    (Access.raised e : Access α).andThen s k = s.raiseExn (.access e) := rfl

@[simp] theorem Access.andThen_refused {α : Type} (r : Refusal) (s : State) (k : α → Result) :
    (Access.refused r : Access α).andThen s k = .refused r := rfl

/-- An instruction that goes on after an access has a value from it, or the access's exception has been taken. -/
theorem Access.andThen_eq_next {α : Type} {x : Access α} {s t : State} {k : α → Result}
    (h : x.andThen s k = .next t) :
    (∃ a, x = .ok a ∧ k a = .next t) ∨ s.Trapped t := by
  cases x with
  | ok a => exact .inl ⟨a, rfl, h⟩
  | raised e => exact .inr ⟨_, h⟩
  | refused r => cases h

/-! ### Translation -/

/-- A translation answers an address or an exception. -/
theorem State.translate_ne_refused (s : State) (kind : AccessKind) (ba va : Octlet) (r : Refusal) :
    s.translate kind ba va ≠ .refused r := by
  unfold State.translate
  generalize s.params.translation = xs
  induction xs with
  | nil => exact fun h => by cases h
  | cons x xs ih =>
    rw [translateBy]
    split
    · split <;> exact fun h => by cases h
    · exact ih

/-- A translation answers one of the 2^32 physical addresses. -/
theorem State.translate_lt {s : State} {kind : AccessKind} {ba va : Octlet} {p : PhysicalAddress}
    (h : s.translate kind ba va = .ok p) : p.address < physicalSpace := by
  unfold State.translate at h
  generalize s.params.translation = xs at h
  induction xs with
  | nil => cases h
  | cons x xs ih =>
    rw [translateBy] at h
    split at h
    · split at h
      · cases h
        exact BitVec.isLt _
      · cases h
    · exact ih h

/-- Under the default translation every virtual address below 2^32 is its own physical address, and every other one is
disallowed, whatever the kind and the level. -/
theorem State.translate_identity {s : State} (h : s.params.translation = Config.identityTranslation)
    (kind : AccessKind) (ba va : Octlet) :
    s.translate kind ba va =
      if va.toNat < physicalSpace then .ok { transaction := .memory, address := va.toNat }
      else .raised .disallowedByVirtualAddress := by
  have hl : ∀ p : Level, p ∈ ([0, 1, 2, 3] : List Level) := by decide
  have hk : ([.read, .write, .gateway, .execute] : List AccessKind).contains kind = true := by cases kind <;> rfl
  have hp : ([0, 1, 2, 3] : List Level).contains s.privilegeLevel = true := by
    simpa using hl s.privilegeLevel
  have hb := ba.isLt
  unfold State.translate
  rw [h]
  simp only [Config.identityTranslation, translateBy, XlatRule.covers, hk, hp]
  by_cases hv : va.toNat < physicalSpace
  · have : va.toNat % 4294967296 = va.toNat := Nat.mod_eq_of_lt hv
    simp [hb, hv, this]
  · simp [hb, hv]

/-- Bytes that all translate. -/
theorem State.translateBytes_of_ok {s : State} {kind : AccessKind} {ba va : Octlet} {n : Nat} {pa : Nat → PhysicalAddress}
    (h : ∀ k < n, s.translate kind ba (va + BitVec.ofNat 64 k) = .ok (pa k)) :
    s.translateBytes kind ba va n = .ok ((List.range n).map pa) := by
  induction n generalizing va pa with
  | zero => rfl
  | succ n ih =>
    have h0 : s.translate kind ba va = .ok (pa 0) := by simpa using h 0 (by omega)
    have hs : ∀ k < n, s.translate kind ba (va + 1#64 + BitVec.ofNat 64 k) = .ok ((pa ∘ Nat.succ) k) := by
      intro k hk
      have e : va + 1#64 + BitVec.ofNat 64 k = va + BitVec.ofNat 64 (k + 1) := by
        rw [BitVec.add_assoc, BitVec.add_comm 1#64, BitVec.ofNat_add]
      rw [e]
      exact h (k + 1) (by omega)
    rw [State.translateBytes, h0, ih hs, List.range_succ_eq_map, List.map_cons, List.map_map]

/-- What bytes translate to when they do. -/
theorem State.ok_of_translateBytes {s : State} {kind : AccessKind} {ba va : Octlet} {n : Nat} {pas : List PhysicalAddress}
    (h : s.translateBytes kind ba va n = .ok pas) :
    ∃ pa : Nat → PhysicalAddress, pas = (List.range n).map pa ∧
      ∀ k < n, s.translate kind ba (va + BitVec.ofNat 64 k) = .ok (pa k) := by
  induction n generalizing va pas with
  | zero =>
    cases h
    exact ⟨fun _ => { transaction := .memory, address := 0 }, rfl, fun k hk => by omega⟩
  | succ n ih =>
    rw [State.translateBytes] at h
    split at h
    · rename_i p0 hp0
      split at h
      · rename_i ps hps
        obtain ⟨pa, rfl, hpa⟩ := ih hps
        cases h
        refine ⟨fun k => if k = 0 then p0 else pa (k - 1), ?_, ?_⟩
        · rw [List.range_succ_eq_map, List.map_cons, List.map_map]
          rfl
        · intro k hk
          cases k with
          | zero => simpa using hp0
          | succ k =>
            have e : va + BitVec.ofNat 64 (k + 1) = va + 1#64 + BitVec.ofNat 64 k := by
              rw [BitVec.add_assoc, BitVec.add_comm 1#64, BitVec.ofNat_add]
            rw [e]
            simpa using hpa k (by omega)
      · cases h
      · cases h
    · cases h
    · cases h

/-- The first byte that does not translate decides the exception. -/
theorem State.translateBytes_raised {s : State} {kind : AccessKind} {ba va : Octlet} {n k : Nat} {e : AccessFault}
    (hk : k < n) (hbefore : ∀ j < k, ∃ p, s.translate kind ba (va + BitVec.ofNat 64 j) = .ok p)
    (he : s.translate kind ba (va + BitVec.ofNat 64 k) = .raised e) :
    s.translateBytes kind ba va n = .raised e := by
  induction n generalizing va k with
  | zero => omega
  | succ n ih =>
    cases k with
    | zero =>
      have h0 : s.translate kind ba va = .raised e := by simpa using he
      rw [State.translateBytes, h0]
    | succ k =>
      obtain ⟨p, hp⟩ := hbefore 0 (by omega)
      have h0 : s.translate kind ba va = .ok p := by simpa using hp
      have hnext : ∀ j, va + 1#64 + BitVec.ofNat 64 j = va + BitVec.ofNat 64 (j + 1) := by
        intro j
        rw [BitVec.add_assoc, BitVec.add_comm 1#64, BitVec.ofNat_add]
      rw [State.translateBytes, h0]
      rw [ih (k := k) (by omega) (fun j hj => by rw [hnext]; exact hbefore (j + 1) (by omega)) (by rw [hnext]; exact he)]

/-- Bytes that all lie in memory have the addresses there. -/
theorem inMemory_eq_ok {n : Nat} {pa : Nat → PhysicalAddress} {pas : List Nat} :
    inMemory ((List.range n).map pa) = .ok pas ↔
      (∀ k < n, (pa k).transaction = .memory) ∧ pas = (List.range n).map fun k => (pa k).address := by
  unfold inMemory
  split
  · rename_i h
    simp only [List.all_map, List.all_eq_true, List.mem_range, Function.comp, decide_eq_true_eq] at h
    simp only [Access.ok.injEq, List.map_map, eq_comm (b := pas)]
    exact ⟨fun e => ⟨h, e⟩, fun e => e.2⟩
  · rename_i h
    refine ⟨(nomatch ·), fun e => absurd ?_ h⟩
    simpa using e.1

/-- Bytes one of which lies at an I/O address are refused. -/
theorem inMemory_io {n k : Nat} {pa : Nat → PhysicalAddress} (hk : k < n) (hio : (pa k).transaction = .io) :
    inMemory ((List.range n).map pa) = .refused .ioTransaction := by
  unfold inMemory
  rw [if_neg]
  intro h
  simp only [List.all_map, List.all_eq_true, List.mem_range, Function.comp, decide_eq_true_eq] at h
  have := h k hk
  rw [hio] at this
  cases this

/-- An access that maps has its addresses in memory. -/
theorem State.span_of_maps {s : State} {kind : AccessKind} {ba va : Octlet} {n : Nat} {pa : Nat → Nat}
    (h : s.Maps kind ba va n pa) : s.span kind ba va n = .ok ((List.range n).map pa) := by
  rw [State.span, if_pos h.1, State.translateBytes_of_ok h.2]
  exact inMemory_eq_ok.2 ⟨fun _ _ => rfl, rfl⟩

/-- Addresses in memory come from an access that maps. -/
theorem State.maps_of_span {s : State} {kind : AccessKind} {ba va : Octlet} {n : Nat} {pas : List Nat}
    (h : s.span kind ba va n = .ok pas) : ∃ pa, pas = (List.range n).map pa ∧ s.Maps kind ba va n pa := by
  unfold State.span at h
  split at h
  · rename_i hle
    split at h
    · rename_i ps hps
      obtain ⟨pa, rfl, hpa⟩ := State.ok_of_translateBytes hps
      obtain ⟨hmem, rfl⟩ := inMemory_eq_ok.1 h
      refine ⟨_, rfl, hle, fun k hk => ?_⟩
      rw [hpa k hk, ← hmem k hk]
    · cases h
    · cases h
  · cases h

/-- The addresses of an access that maps are physical addresses. -/
theorem State.Maps.lt {s : State} {kind : AccessKind} {ba va : Octlet} {n : Nat} {pa : Nat → Nat}
    (h : s.Maps kind ba va n pa) {k : Nat} (hk : k < n) : pa k < physicalSpace := State.translate_lt (h.2 k hk)

/-- The addresses an access answers are physical addresses. -/
theorem State.span_lt {s : State} {kind : AccessKind} {ba va : Octlet} {n : Nat} {pas : List Nat}
    (h : s.span kind ba va n = .ok pas) : ∀ a ∈ pas, a < physicalSpace := by
  obtain ⟨pa, rfl, hm⟩ := State.maps_of_span h
  intro a ha
  obtain ⟨k, hk, rfl⟩ := List.mem_map.1 ha
  exact hm.lt (List.mem_range.1 hk)

/-- An access all of whose bytes translate, one of them to an I/O address, is refused. -/
theorem State.span_io {s : State} {kind : AccessKind} {ba va : Octlet} {n k : Nat} {pa : Nat → PhysicalAddress}
    (hle : va.toNat + n ≤ 2 ^ 64) (h : ∀ k < n, s.translate kind ba (va + BitVec.ofNat 64 k) = .ok (pa k)) (hk : k < n)
    (hio : (pa k).transaction = .io) : s.span kind ba va n = .refused .ioTransaction := by
  rw [State.span, if_pos hle, State.translateBytes_of_ok h]
  exact inMemory_io hk hio

/-! ### Values as bytes -/

/-- Base-256 digits give the number back. -/
theorem littleNat_digits (v n : Nat) :
    littleNat ((List.range n).map fun k => BitVec.ofNat 8 (v / 2 ^ (8 * k))) = v % 2 ^ (8 * n) := by
  induction n generalizing v with
  | zero => simp [littleNat, Nat.mod_one]
  | succ n ih =>
    rw [List.range_succ_eq_map, List.map_cons, List.map_map, littleNat]
    have e : ((fun k => BitVec.ofNat 8 (v / 2 ^ (8 * k))) ∘ Nat.succ) =
        fun k => BitVec.ofNat 8 ((v / 256) / 2 ^ (8 * k)) := by
      funext k
      have : 2 ^ (8 * (k + 1)) = 256 * 2 ^ (8 * k) := by
        rw [Nat.mul_add, Nat.pow_add, Nat.mul_comm]
      simp only [Function.comp, Nat.succ_eq_add_one, this, Nat.div_div_eq_div_mul]
    rw [e, ih]
    have : 2 ^ (8 * (n + 1)) = 256 * 2 ^ (8 * n) := by
      rw [Nat.mul_add, Nat.pow_add, Nat.mul_comm]
    rw [this, Nat.mod_mul]
    simp

/-- A byte of a value as a digit of the number it is. -/
theorem extractLsb'_eq_digit {w : Nat} (v : BitVec w) (k : Nat) :
    v.extractLsb' (8 * k) 8 = BitVec.ofNat 8 (v.toNat / 2 ^ (8 * k)) := by
  apply BitVec.eq_of_toNat_eq
  simp [BitVec.extractLsb'_toNat, Nat.shiftRight_eq_div_pow]

/-- The bytes of a store are those `byteAt` names. -/
theorem disassemble_eq (ord : ByteOrder) (size : Nat) (v : BitVec size) :
    disassemble ord (size / 8) v = (List.range (size / 8)).map (byteAt ord size v) := by
  cases ord with
  | little => rfl
  | big =>
    apply List.ext_getElem
    · simp [disassemble, bySignificance]
    · intro k h1 h2
      simp [disassemble, bySignificance, byteAt, significance]

/-- The bytes of a value read back are the value. -/
theorem assemble_byteAt (ord : ByteOrder) {size : Nat} (h8 : 8 ∣ size) (v : BitVec size) :
    assemble ord size ((List.range (size / 8)).map (byteAt ord size v)) = v := by
  have hl : ∀ ord, bySignificance ord ((List.range (size / 8)).map (byteAt ord size v)) =
      (List.range (size / 8)).map fun k => v.extractLsb' (8 * k) 8 := by
    intro ord
    rw [← disassemble_eq]
    cases ord <;> simp [disassemble, bySignificance]
  unfold assemble
  rw [hl]
  simp only [extractLsb'_eq_digit]
  rw [littleNat_digits, Nat.mul_div_cancel' h8]
  apply BitVec.eq_of_toNat_eq
  simp

/-! ### Alignment -/

/-- The alignment test on a size that is a power of two: the base is no multiple of the size in bytes. -/
theorem misaligned_two_pow {c : Octlet} {l : Nat} (h3 : 3 ≤ l) (h7 : l ≤ 7) :
    misaligned c (2 ^ l) = decide (c.toNat % (2 ^ l / 8) ≠ 0) := by
  have e : 2 ^ l / 8 = 2 ^ (l - 3) := by
    obtain ⟨j, rfl⟩ := Nat.exists_eq_add_of_le h3
    rw [Nat.pow_add]
    simp
  have hlt : 2 ^ (l - 3) ≤ 2 ^ 4 := Nat.pow_le_pow_right (by decide) (by omega)
  have hp : 0 < 2 ^ (l - 3) := Nat.two_pow_pos _
  have hmod : (c &&& BitVec.ofNat 64 (2 ^ l / 8 - 1)).toNat = c.toNat % (2 ^ l / 8) := by
    rw [e, BitVec.toNat_and, BitVec.toNat_ofNat, Nat.mod_eq_of_lt (by omega), Nat.and_two_pow_sub_one_eq_mod]
  unfold misaligned
  rw [Bool.eq_iff_iff]
  simp only [bne_iff_ne, ne_eq, decide_eq_true_eq, ← hmod]
  constructor
  · intro h h'
    exact h (BitVec.eq_of_toNat_eq (by simpa using h'))
  · intro h h'
    exact h (by rw [h']; rfl)

/-! ### Loads and stores -/

/-- A load where memory holds a value. -/
theorem State.loadMemory_of_holds {s : State} {kind : AccessKind} {ba va : Octlet} {size : Nat} {ord : ByteOrder}
    {pa : Nat → Nat} {v : BitVec size} (h8 : 8 ∣ size) (hm : s.Maps kind ba va (size / 8) pa)
    (hh : s.mem.Holds pa ord size v) : s.loadMemory kind ba va size ord = .ok v := by
  have e : ((List.range (size / 8)).map pa).map s.mem.read = (List.range (size / 8)).map (byteAt ord size v) := by
    rw [List.map_map]
    apply List.map_congr_left
    intro k hk
    exact hh k (List.mem_range.1 hk)
  rw [State.loadMemory, State.span_of_maps hm]
  simp only [e, assemble_byteAt ord h8]

/-- The bytes of an assembled value are the bytes it was assembled from. -/
theorem byteAt_assemble (ord : ByteOrder) {size : Nat} (h8 : 8 ∣ size) (f : Nat → Byte) :
    ∀ k < size / 8, byteAt ord size (assemble ord size ((List.range (size / 8)).map f)) k = f k := by
  have key : ∀ n (f : Nat → Byte), ∀ k < n, ((littleNat ((List.range n).map f)) / 2 ^ (8 * k)) % 256 = (f k).toNat := by
    intro n
    induction n with
    | zero => intro f k hk; omega
    | succ n ih =>
      intro f k hk
      rw [List.range_succ_eq_map, List.map_cons, List.map_map, littleNat]
      have hb := (f 0).isLt
      cases k with
      | zero =>
        simp only [Nat.mul_zero, Nat.pow_zero, Nat.div_one]
        omega
      | succ k =>
        have : 2 ^ (8 * (k + 1)) = 256 * 2 ^ (8 * k) := by
          rw [Nat.mul_add, Nat.pow_add, Nat.mul_comm]
        rw [this, ← Nat.div_div_eq_div_mul]
        have e : ((f 0).toNat + 256 * littleNat ((List.range n).map (f ∘ Nat.succ))) / 256 =
            littleNat ((List.range n).map (f ∘ Nat.succ)) := by omega
        rw [e]
        exact ih (f ∘ Nat.succ) k (by omega)
  have bound : ∀ bs : List Byte, littleNat bs < 2 ^ (8 * bs.length) := by
    intro bs
    induction bs with
    | nil => simp [littleNat]
    | cons b bs ih =>
      have hb := b.isLt
      have : 2 ^ (8 * (b :: bs).length) = 256 * 2 ^ (8 * bs.length) := by
        rw [List.length_cons, Nat.mul_add, Nat.pow_add, Nat.mul_comm]
      rw [this, littleNat]
      omega
  have digit : ∀ f : Nat → Byte, ∀ k < size / 8,
      (BitVec.ofNat size (littleNat ((List.range (size / 8)).map f))).extractLsb' (8 * k) 8 = f k := by
    intro f k hk
    rw [extractLsb'_eq_digit]
    apply BitVec.eq_of_toNat_eq
    have hb := bound ((List.range (size / 8)).map f)
    rw [List.length_map, List.length_range, Nat.mul_div_cancel' h8] at hb
    rw [BitVec.toNat_ofNat, BitVec.toNat_ofNat, Nat.mod_eq_of_lt hb]
    exact key _ f k hk
  intro k hk
  cases ord with
  | little => exact digit f k hk
  | big =>
    have hrev : ((List.range (size / 8)).map f).reverse =
        (List.range (size / 8)).map fun k => f (size / 8 - 1 - k) := by
      apply List.ext_getElem
      · simp
      · intro i h1 h2
        simp
    simp only [byteAt, significance, assemble, bySignificance, hrev]
    rw [digit (fun k => f (size / 8 - 1 - k)) (size / 8 - 1 - k) (by omega)]
    congr 1
    omega

/-- Memory always holds some value. -/
theorem Memory.holds_assemble (m : Memory) (pa : Nat → Nat) (ord : ByteOrder) {size : Nat} (h8 : 8 ∣ size) :
    m.Holds pa ord size (assemble ord size ((List.range (size / 8)).map fun k => m.read (pa k))) :=
  fun k hk => (byteAt_assemble ord h8 (fun k => m.read (pa k)) k hk).symm

/-- What a load that answers a value says: where the access lies and what memory holds there. -/
theorem State.loadMemory_eq_ok {s : State} {kind : AccessKind} {ba va : Octlet} {size : Nat} {ord : ByteOrder}
    {v : BitVec size} (h8 : 8 ∣ size) (h : s.loadMemory kind ba va size ord = .ok v) :
    ∃ pa, s.Maps kind ba va (size / 8) pa ∧ s.mem.Holds pa ord size v := by
  unfold State.loadMemory at h
  split at h
  · rename_i pas hp
    obtain ⟨pa, rfl, hm⟩ := State.maps_of_span hp
    cases h
    refine ⟨pa, hm, ?_⟩
    rw [List.map_map]
    exact Memory.holds_assemble s.mem pa ord h8
  · cases h
  · cases h

/-- A store where the access maps: memory holds the value there and is otherwise unchanged, and nothing but memory and
the list of old contents is written. -/
theorem State.storeMemory_of_maps {s : State} {ba va : Octlet} {size : Nat} {ord : ByteOrder} {pa : Nat → Nat}
    (hm : s.Maps .write ba va (size / 8) pa) (data : BitVec size) :
    ∃ t, s.storeMemory ba va size ord data = .ok t ∧ t = { s with mem := t.mem, stale := t.stale } ∧
      s.mem.Stored t.mem pa ord size data := by
  refine ⟨_, by rw [State.storeMemory, State.span_of_maps hm], State.storeBytes_frame _ _ _, ?_, ?_⟩
  · intro k hk hlast
    rw [disassemble_eq]
    exact State.read_storeBytes s _ pa _ hk hlast
  · intro a ha
    apply State.read_storeBytes_of_absent
    simp only [List.mem_map, List.mem_range, not_exists, not_and]
    exact ha

/-- What a store that succeeds says. -/
theorem State.storeMemory_eq_ok {s t : State} {ba va : Octlet} {size : Nat} {ord : ByteOrder} {data : BitVec size}
    (h : s.storeMemory ba va size ord data = .ok t) :
    ∃ pa, s.Maps .write ba va (size / 8) pa ∧ t = { s with mem := t.mem, stale := t.stale } ∧
      s.mem.Stored t.mem pa ord size data := by
  unfold State.storeMemory at h
  split at h
  · rename_i pas hp
    obtain ⟨pa, rfl, hm⟩ := State.maps_of_span hp
    obtain ⟨t', ht', hf, hs⟩ := State.storeMemory_of_maps (ord := ord) hm data
    rw [State.storeMemory, hp] at ht'
    cases h
    cases ht'
    exact ⟨pa, hm, hf, hs⟩
  · cases h
  · cases h

/-- A store leaves a memory that lists physical addresses only. -/
theorem State.storeMemory_inSpace {s t : State} {ba va : Octlet} {size : Nat} {ord : ByteOrder} {data : BitVec size}
    (h : s.storeMemory ba va size ord data = .ok t) (hw : s.mem.inSpace = true) : t.mem.inSpace = true := by
  unfold State.storeMemory at h
  split at h
  · rename_i pas hp
    cases h
    exact State.storeBytes_inSpace _ _ _ hw (State.span_lt hp)
  · cases h
  · cases h

/-- Placing an instruction word leaves a memory that lists physical addresses only. -/
theorem State.withFetchWord_inSpace (s : State) (nbits w : Nat) (h : s.mem.inSpace = true) :
    (s.withFetchWord nbits w).mem.inSpace = true := by
  unfold State.withFetchWord State.placeWord
  split
  · split
    · rename_i pas hp
      exact State.launchBytes_inSpace _ _ _ h (State.span_lt hp)
    · exact h
    · exact h
  · exact h

/-! ### The shared bodies of the loads and stores -/

/-- What a load instruction that answers a state has done: loaded, or taken an exception. -/
theorem load_eq_next {ext : Extension} {al : Alignment} {size : Nat} {ord : ByteOrder} {rd rc : Reg} {va : Octlet}
    {s t : State} (h : load ext al size ord rd rc va s = .next t) :
    (al.rejects (s.lo rc) size = false ∧
      ∃ v, s.loadMemory .read (s.lo rc) va size ord = .ok v ∧ t = (s.setReg rd (ext.extend v)).advance) ∨
    s.Trapped t := by
  unfold load at h
  split at h
  · exact .inr ⟨_, h⟩
  · rename_i ha
    obtain ⟨v, hv, hk⟩ | ht := Access.andThen_eq_next h
    · cases hk
      exact .inl ⟨by simpa using ha, v, hv, rfl⟩
    · exact .inr ht

/-- What a store instruction that answers a state has done: stored, or taken an exception. -/
theorem store_eq_next {al : Alignment} {size : Nat} {ord : ByteOrder} {rd rc : Reg} {va : Octlet} {s t : State}
    (h : store al size ord rd rc va s = .next t) :
    (al.rejects (s.lo rc) size = false ∧
      ∃ u, s.storeMemory (s.lo rc) va size ord ((s.reg rd).setWidth size) = .ok u ∧ t = u.advance) ∨
    s.Trapped t := by
  unfold store at h
  split at h
  · exact .inr ⟨_, h⟩
  · rename_i ha
    obtain ⟨u, hu, hk⟩ | ht := Access.andThen_eq_next h
    · cases hk
      exact .inl ⟨by simpa using ha, u, hu, rfl⟩
    · exact .inr ht

/-- What a `lock` block over one octlet that answers a state has done: gone through, or taken an exception. -/
theorem lockedOctlet_eq_next {ord : ByteOrder} {rc : Reg} {va : Octlet} {s t : State}
    {update : Octlet → Option Octlet} {finish : Octlet → State → State}
    (h : lockedOctlet ord rc va s update finish = .next t) :
    (misaligned (s.lo rc) 64 = false ∧
      ∃ a, s.loadMemory .write (s.lo rc) va 64 ord = .ok a ∧
        ((update a = none ∧ t = (finish a s).advance) ∨
          ∃ m u, update a = some m ∧ s.storeMemory (s.lo rc) va 64 ord m = .ok u ∧ t = (finish a u).advance)) ∨
    s.Trapped t := by
  unfold lockedOctlet at h
  split at h
  · exact .inr ⟨_, h⟩
  · rename_i hmis
    obtain ⟨a, ha, hk⟩ | ht := Access.andThen_eq_next h
    · split at hk
      · rename_i hn
        cases hk
        exact .inl ⟨by simpa using hmis, a, ha, .inl ⟨hn, rfl⟩⟩
      · rename_i m hm
        obtain ⟨u, hu, hk⟩ | ht := Access.andThen_eq_next hk
        · cases hk
          exact .inl ⟨by simpa using hmis, a, ha, .inr ⟨m, u, hm, hu, rfl⟩⟩
        · exact .inr ht
    · exact .inr ht

/-- What a return from an exception that answers a state has done: returned, or taken an exception of its own. -/
theorem State.returnFromException_eq_next {s t : State} (h : s.returnFromException = .next t) :
    (∃ a, s.loadMemory .read s.exceptionBase (s.exceptionBase + s.thread * 128#64) 128 .little = .ok a ∧
      t = (((s.lowerPrivilege ((s.lo 0).setWidth 2)).jump (wordTarget (s.lo 0))).clearExceptionState).setReg 0 a) ∨
    s.Trapped t := by
  obtain ⟨a, ha, hk⟩ | ht := Access.andThen_eq_next h
  · cases hk
    exact .inl ⟨a, ha, rfl⟩
  · exact .inr ht

/-- What a fetch that answers a word has done: it changes the count of free values and nothing else. -/
theorem State.fetch_eq_ok {s t : State} {w : Word} (h : s.fetch = .ok (w, t)) : t = { s with draws := t.draws } := by
  unfold State.fetch at h
  split at h
  · cases h
    rfl
  · cases h
  · cases h

/-- What an instruction word that answers a state is: an instruction all of whose registers the machine has, and that
answers that state, or a reserved encoding whose exception has been taken. -/
theorem runWord_eq_next {w : Word} {s t : State} (h : runWord w s = .next t) :
    (∃ i, decodeWith s.params.opcodeMap w = .instr i ∧ s.hasRegisters i.registers = true ∧ exec i s = .next t) ∨
    (decodeWith s.params.opcodeMap w = .reserved ∧ s.raiseExn .reservedInstruction = .next t) := by
  unfold runWord runDecoded at h
  split at h
  · rename_i i hi
    unfold State.withRegisters at h
    split at h
    · rename_i hr
      exact .inl ⟨i, hi, hr, h⟩
    · cases h
  · rename_i hd
    exact .inr ⟨hd, h⟩
  · cases h

/-- What a step of a running machine that answers a state has done: fetched a word and run it, or taken an exception of
the fetch. -/
theorem step_eq_next {s t : State} (hr : s.halted = false) (h : step s = .next t) :
    (∃ w u, s.fetch = .ok (w, u) ∧ u = { s with draws := u.draws } ∧ runWord w u = .next t) ∨ s.Trapped t := by
  unfold step at h
  rw [if_neg (by simp [hr])] at h
  obtain ⟨⟨w, u⟩, hf, hk⟩ | ht := Access.andThen_eq_next h
  · exact .inl ⟨w, u, hf, State.fetch_eq_ok hf, hk⟩
  · exact .inr ht

end Sys2Proof.Machine
end

