-- ==== Sys2Proof/Tests/Slice0.lean ====
section
/-! SUPPORT. Tests: ill-formed terms refused, the decoding of a word of every instruction, one step of some instructions
on the vectors of 95_test_vectors.md section 2, and for every obligation with hypotheses a state and operands that meet
them. -/

set_option Elab.async false

namespace Sys2Proof.Tests

open Sys2Proof Sys2Proof.Machine Sys2Proof.Claims

/-! ### Ill-formed terms are refused -/

/-- The shift-and-add instructions with a count of 0, which has no encoding (30_encoding.md rule R149). -/
noncomputable def countsTooSmall : List Instr :=
  [.aShlIAdd 1 2 3 0, .aShlISub 1 2 3 0, .gShlIAdd8 1 2 3 0, .gShlIAdd16 1 2 3 0, .gShlIAdd32 1 2 3 0,
   .gShlIAdd64 1 2 3 0, .gShlIAdd128 1 2 3 0, .gShlISub8 1 2 3 0, .gShlISub16 1 2 3 0, .gShlISub32 1 2 3 0,
   .gShlISub64 1 2 3 0, .gShlISub128 1 2 3 0]

/-- The same with a count of 5. -/
noncomputable def countsTooLarge : List Instr :=
  [.aShlIAdd 1 2 3 5, .aShlISub 1 2 3 5, .gShlIAdd8 1 2 3 5, .gShlIAdd16 1 2 3 5, .gShlIAdd32 1 2 3 5,
   .gShlIAdd64 1 2 3 5, .gShlIAdd128 1 2 3 5, .gShlISub8 1 2 3 5, .gShlISub16 1 2 3 5, .gShlISub32 1 2 3 5,
   .gShlISub64 1 2 3 5, .gShlISub128 1 2 3 5]

theorem test_count_zero_refused : countsTooSmall.all (fun i => !i.wellFormed) = true := by decide +kernel

theorem test_count_five_refused : countsTooLarge.all (fun i => !i.wellFormed) = true := by decide +kernel

/-! ### Operation-code maps that are no maps are refused -/

/-- The codes of G.ADD.I.16 and G.ADD.I.32 exchanged: the `sz` bits of each are those of the other's size
(30_encoding.md rules R134 and R147). -/
def mapWithWrongSizes : OpcodeMap := { codes := (opcodeMap.codes.set 269 0x76000400).set 271 0x76000000 }

theorem test_wrong_size_bits_refused : mapWithWrongSizes.valid = false := by decide +kernel

/-- One code too few. -/
theorem test_short_map_refused : ({ codes := opcodeMap.codes.drop 1 } : OpcodeMap).valid = false := by decide +kernel

/-- The code of L.16.B given to L.8 too. -/
theorem test_shared_code_refused : ({ codes := opcodeMap.codes.set 0 0x01000001 } : OpcodeMap).valid = false := by
  decide +kernel

/-! ### A word of every instruction

Each word is written field by field from the layout of its format (30_encoding.md rule R133), the operation code from
notes/assumptions/1.md. -/

/-- Every word of a table decodes to the instruction beside it, and encoding that gives the word back. -/
noncomputable def decodesAll (ws : List (Word × Instr)) : Bool :=
  ws.all fun p => decide (decode p.1 = .instr p.2) && encode p.2 == p.1

noncomputable def loadWords1 : List (Word × Instr) :=
  [(0b00000001_101001_010011_110010_000000, .l8 41 19 50),
   (0b00000001_001001_001100_101110_000001, .l16B 9 12 46),
   (0b00000001_011011_000100_001011_000010, .l16AB 27 4 11),
   (0b00000001_110101_001000_011110_000011, .l16L 53 8 30),
   (0b00000001_110110_000111_001111_000100, .l16AL 54 7 15),
   (0b00000001_000111_110010_000110_000101, .l32B 7 50 6),
   (0b00000001_000101_010001_100101_000110, .l32AB 5 17 37),
   (0b00000001_010010_001111_100111_000111, .l32L 18 15 39),
   (0b00000001_001101_011000_101111_001000, .l32AL 13 24 47),
   (0b00000001_001000_000111_011010_001001, .l64B 8 7 26),
   (0b00000001_110110_101000_111011_001010, .l64AB 54 40 59),
   (0b00000001_101110_100110_011111_001011, .l64L 46 38 31),
   (0b00000001_011111_001010_100110_001100, .l64AL 31 10 38),
   (0b00000001_101011_111001_100100_001101, .l128B 43 57 36),
   (0b00000001_001111_110101_010101_001110, .l128AB 15 53 21),
   (0b00000001_010011_111110_110101_001111, .l128L 19 62 53),
   (0b00000001_001001_101000_101011_010000, .l128AL 9 40 43),
   (0b00000001_111111_111010_001000_010001, .lU8 63 58 8),
   (0b00000001_100010_111100_001000_010010, .lU16B 34 60 8),
   (0b00000001_100111_111001_100100_010011, .lU16AB 39 57 36),
   (0b00000001_101100_000010_111011_010100, .lU16L 44 2 59),
   (0b00000001_010101_001110_111111_010101, .lU16AL 21 14 63),
   (0b00000001_011011_100100_010000_010110, .lU32B 27 36 16),
   (0b00000001_110010_111111_001010_010111, .lU32AB 50 63 10),
   (0b00000001_111001_110011_100011_011000, .lU32L 57 51 35),
   (0b00000001_110111_100011_110101_011001, .lU32AL 55 35 53),
   (0b00000001_110000_011101_010011_011010, .lU64B 48 29 19),
   (0b00000001_010110_010011_011101_011011, .lU64AB 22 19 29),
   (0b00000001_111110_010111_100001_011100, .lU64L 62 23 33),
   (0b00000001_000000_010010_110101_011101, .lU64AL 0 18 53),
   (0b00000010_101000_010000_110010001110, .lI8 40 16 3214),
   (0b00000011_110010_110011_110011010000, .lI16AB 50 51 3280),
   (0b00000100_000111_011000_111000011001, .lI16B 7 24 3609),
   (0b00000101_010100_001110_001101000110, .lI16AL 20 14 838),
   (0b00000110_000000_010011_000011010000, .lI16L 0 19 208),
   (0b00000111_001001_011010_100000010010, .lI32AB 9 26 2066),
   (0b00001000_101100_101110_001110110000, .lI32B 44 46 944),
   (0b00001001_111110_111011_001010111111, .lI32AL 62 59 703),
   (0b00001010_010010_001101_111101010000, .lI32L 18 13 3920),
   (0b00001011_010100_000010_010010110000, .lI64AB 20 2 1200)]

theorem test_load_words_1 : decodesAll loadWords1 = true := by decide +kernel

noncomputable def loadWords2 : List (Word × Instr) :=
  [(0b00001100_000011_100110_101110111100, .lI64B 3 38 3004),
   (0b00001101_010101_101101_011100100011, .lI64AL 21 45 1827),
   (0b00001110_011000_011110_011001100101, .lI64L 24 30 1637),
   (0b00001111_111111_101101_111100011100, .lI128AB 63 45 3868),
   (0b00010000_100001_011000_101100101111, .lI128B 33 24 2863),
   (0b00010001_101110_001010_011101000010, .lI128AL 46 10 1858),
   (0b00010010_111100_011001_111101110001, .lI128L 60 25 3953),
   (0b00010011_000000_111101_001111010110, .lIU8 0 61 982),
   (0b00010100_110001_011001_110111100010, .lIU16AB 49 25 3554),
   (0b00010101_101010_001011_110011011000, .lIU16B 42 11 3288),
   (0b00010110_001010_010100_000011100001, .lIU16AL 10 20 225),
   (0b00010111_010011_111011_101100110110, .lIU16L 19 59 2870),
   (0b00011000_010011_010000_001101001001, .lIU32AB 19 16 841),
   (0b00011001_010001_110111_000011100101, .lIU32B 17 55 229),
   (0b00011010_100000_011011_101001101110, .lIU32AL 32 27 2670),
   (0b00011011_100001_110101_101101010010, .lIU32L 33 53 2898),
   (0b00011100_111010_110101_000010011001, .lIU64AB 58 53 153),
   (0b00011101_111000_010111_010110000011, .lIU64B 56 23 1411),
   (0b00011110_010010_111100_101001101110, .lIU64AL 18 60 2670),
   (0b00011111_111101_001101_011000011111, .lIU64L 61 13 1567)]

theorem test_load_words_2 : decodesAll loadWords2 = true := by decide +kernel

noncomputable def storeWords : List (Word × Instr) :=
  [(0b00100000_100011_000101_001100_000000, .s8 35 5 12),
   (0b00100000_000011_001000_111000_000001, .s16B 3 8 56),
   (0b00100000_011001_100011_111001_000010, .s16AB 25 35 57),
   (0b00100000_011111_100001_011001_000011, .s16L 31 33 25),
   (0b00100000_010001_110101_001111_000100, .s16AL 17 53 15),
   (0b00100000_111000_101000_001001_000101, .s32B 56 40 9),
   (0b00100000_110110_001001_011011_000110, .s32AB 54 9 27),
   (0b00100000_001111_010011_101110_000111, .s32L 15 19 46),
   (0b00100000_100000_010001_111011_001000, .s32AL 32 17 59),
   (0b00100000_001100_110010_111110_001001, .s64B 12 50 62),
   (0b00100000_011100_010100_110111_001010, .s64AB 28 20 55),
   (0b00100000_101011_110101_011001_001011, .s64L 43 53 25),
   (0b00100000_101000_001011_101110_001100, .s64AL 40 11 46),
   (0b00100000_101011_111010_111000_001101, .s128B 43 58 56),
   (0b00100000_110001_101010_100101_001110, .s128AB 49 42 37),
   (0b00100000_001110_011101_001101_001111, .s128L 14 29 13),
   (0b00100000_100001_100010_000101_010000, .s128AL 33 34 5),
   (0b00100000_100010_010000_110110_010001, .sMux64AB 34 16 54),
   (0b00100000_110011_010011_111111_010010, .sMux64AL 51 19 63),
   (0b00100001_001011_100011_110110011100, .sI8 11 35 3484),
   (0b00100010_001001_100010_100001010110, .sI16AB 9 34 2134),
   (0b00100011_001010_011100_001111100100, .sI16B 10 28 996),
   (0b00100100_111010_000001_100010010010, .sI16AL 58 1 2194),
   (0b00100101_010000_000101_010100101010, .sI16L 16 5 1322),
   (0b00100110_100001_000110_100111111011, .sI32AB 33 6 2555),
   (0b00100111_100111_011010_010110110001, .sI32B 39 26 1457),
   (0b00101000_100010_101100_000100101110, .sI32AL 34 44 302),
   (0b00101001_000001_000010_011111011100, .sI32L 1 2 2012),
   (0b00101010_111001_001101_110010010100, .sI64AB 57 13 3220),
   (0b00101011_100111_011011_011001011011, .sI64B 39 27 1627),
   (0b00101100_010001_110011_010000100111, .sI64AL 17 51 1063),
   (0b00101101_000001_001001_010100111001, .sI64L 1 9 1337),
   (0b00101110_000111_001010_011111000000, .sI128AB 7 10 1984),
   (0b00101111_100101_000101_010100001010, .sI128B 37 5 1290),
   (0b00110000_100010_111001_101110100111, .sI128AL 34 57 2983),
   (0b00110001_101010_101001_100111100111, .sI128L 42 41 2535),
   (0b00110010_011011_101101_101010111011, .sMuxi64AB 27 45 2747),
   (0b00110011_110000_001010_011001101110, .sMuxi64AL 48 10 1646)]

theorem test_store_words : decodesAll storeWords = true := by decide +kernel

noncomputable def addressWords1 : List (Word × Instr) :=
  [(0b00000000_001011011111010000101000, .aRes 3011624),
   (0b00110100_010010_110011_000101_000000, .aAdd 18 51 5),
   (0b00110100_000010_100110_011101_000001, .aAddO 2 38 29),
   (0b00110100_010011_110001_101001_000010, .aAddUO 19 49 41),
   (0b00110100_010011_100100_010010_000011, .aAnd 19 36 18),
   (0b00110100_110110_010001_000010_000100, .aAndn 54 17 2),
   (0b00110100_001010_000011_000101_000101, .aNand 10 3 5),
   (0b00110100_101110_001101_110000_000110, .aNor 46 13 48),
   (0b00110100_000110_000010_011111_000111, .aOr 6 2 31),
   (0b00110100_100001_000000_111010_001000, .aOrn 33 0 58),
   (0b00110100_001011_001000_111100_001001, .aXnor 11 8 60),
   (0b00110100_001001_100001_011110_001010, .aXor 9 33 30),
   (0b00110101_011101_111010_000000000000, .aComAndE 29 58),
   (0b00110101_001001_111101_000000000001, .aComAndNe 9 61),
   (0b00110101_011001_001001_000000000010, .aComE 25 9),
   (0b00110101_100000_100110_000000000011, .aComGe 32 38),
   (0b00110101_111101_000111_000000000100, .aComGeU 61 7),
   (0b00110101_001100_011011_000000000101, .aComL 12 27),
   (0b00110101_100100_111011_000000000110, .aComLU 36 59),
   (0b00110101_100111_001010_000000000111, .aComNe 39 10),
   (0b00110110_100101_100010011000110101, .aCopyI 37 140853),
   (0b00110111_110001_011010_010010001001, .aAddI 49 26 1161),
   (0b00111000_100001_101110_001110011011, .aAddIO 33 46 923),
   (0b00111001_101110_011101_110010011100, .aAddIUO 46 29 3228),
   (0b00111010_000011_010100_111001101100, .aAndI 3 20 3692),
   (0b00111011_110011_100110_101100000001, .aNandI 51 38 2817),
   (0b00111100_110000_101000_000000001110, .aNorI 48 40 14),
   (0b00111101_101001_101011_011001000011, .aOrI 41 43 1603),
   (0b00111110_000001_100101_001000010100, .aXorI 1 37 532),
   (0b00111111_110010_110001_110110110010, .aSetAndEI 50 49 3506),
   (0b01000000_100011_000110_010011000011, .aSetAndNeI 35 6 1219),
   (0b01000001_011111_100010_011000010011, .aSetEI 31 34 1555),
   (0b01000010_101111_110110_011010000010, .aSetGeI 47 54 1666),
   (0b01000011_001010_000110_010001101111, .aSetLI 10 6 1135),
   (0b01000100_100100_111110_010101110110, .aSetNeI 36 62 1398),
   (0b01000101_111100_110101_100110000111, .aSetGeIU 60 53 2439),
   (0b01000110_100000_100001_100110100000, .aSetLIU 32 33 2464),
   (0b01000111_111101_110010_010100101100, .aSubI 61 50 1324),
   (0b01001000_001001_011010_111001111110, .aSubIO 9 26 3710),
   (0b01001001_101010_111001_011000101000, .aSubIUO 42 57 1576)]

theorem test_address_words_1 : decodesAll addressWords1 = true := by decide +kernel

noncomputable def addressWords2 : List (Word × Instr) :=
  [(0b00110100_011111_001011_010110_001011, .aSetAndE 31 11 22),
   (0b00110100_001011_101000_011110_001100, .aSetAndNe 11 40 30),
   (0b00110100_100001_011001_000010_001101, .aSetE 33 25 2),
   (0b00110100_110001_110100_011010_001110, .aSetGe 49 52 26),
   (0b00110100_100010_101011_000111_001111, .aSetGeU 34 43 7),
   (0b00110100_100011_101110_010000_010000, .aSetL 35 46 16),
   (0b00110100_001011_100010_011111_010001, .aSetLU 11 34 31),
   (0b00110100_110011_111001_110111_010010, .aSetNe 51 57 55),
   (0b00110100_000010_010000_000100_010011, .aSub 2 16 4),
   (0b00110100_111100_111110_000000_010100, .aSubO 60 62 0),
   (0b00110100_110010_111011_111001_010101, .aSubUO 50 59 57),
   (0b01001010_001101_011100_010011_0000_00, .aShlIAdd 13 28 19 1),
   (0b01001010_000101_000000_010000_0001_00, .aShlISub 5 0 16 1),
   (0b00110100_100110_010000_100000_010110, .aShlI 38 16 32),
   (0b00110100_001110_001100_001001_010111, .aShlIO 14 12 9),
   (0b00110100_011000_110001_100001_011000, .aShlIUO 24 49 33),
   (0b00110100_000000_000001_100110_011001, .aShrI 0 1 38),
   (0b00110100_100011_101000_011111_011010, .aShrIU 35 40 31),
   (0b01001011_011110_011111_000011_110100, .aMux 30 31 3 52)]

theorem test_address_words_2 : decodesAll addressWords2 = true := by decide +kernel

noncomputable def branchWords : List (Word × Instr) :=
  [(0b01001100_100111_000111_000010_000000, .b 39 7 2),
   (0b01001100_111111_110101_001010_000001, .bBack 63 53 10),
   (0b01001100_011101_110110_101111_000010, .bBarrier 29 54 47),
   (0b01001101_000100_101011_110010101110, .bAndE 4 43 3246),
   (0b01001110_011001_000000_011010010001, .bAndNe 25 0 1681),
   (0b01001111_111111_011001_011101100010, .bE 63 25 1890),
   (0b01010000_111011_011100_001101111100, .bGe 59 28 892),
   (0b01010001_111111_010111_110101011000, .bL 63 23 3416),
   (0b01010010_000111_010010_011011010000, .bNe 7 18 1744),
   (0b01010011_000011_010010_000111101100, .bGeU 3 18 492),
   (0b01010100_010111_110010_001110011111, .bLU 23 50 927),
   (0b01010101_001010_010101_010111101111, .bEF16 10 21 1519),
   (0b01010110_111011_000100_101111110110, .bEF32 59 4 3062),
   (0b01010111_101010_111000_000000010111, .bEF64 42 56 23),
   (0b01011000_001010_100011_001111110101, .bEF128 10 35 1013),
   (0b01011001_011010_110000_110111010110, .bGeF16 26 48 3542),
   (0b01011010_001011_000110_101111101101, .bGeF32 11 6 3053),
   (0b01011011_111001_011000_111100101111, .bGeF64 57 24 3887),
   (0b01011100_000011_110100_000101001101, .bGeF128 3 52 333),
   (0b01011101_110000_000100_000111111011, .bLF16 48 4 507),
   (0b01011110_100000_011000_101110011101, .bLF32 32 24 2973),
   (0b01011111_100010_101010_101000100000, .bLF64 34 42 2592),
   (0b01100000_100011_100110_000011000110, .bLF128 35 38 198),
   (0b01100001_011101_001101_110001011110, .bLgF16 29 13 3166),
   (0b01100010_100000_110111_111111100011, .bLgF32 32 55 4067),
   (0b01100011_010111_000001_011110001110, .bLgF64 23 1 1934),
   (0b01100100_101001_101000_001010000111, .bLgF128 41 40 647),
   (0b01100101_011001_110010_110100001100, .bIF32 25 50 3340),
   (0b01100110_001000_000100_010100100100, .bNiF32 8 4 1316),
   (0b01100111_110110_001101_001010110000, .bNvF32 54 13 688),
   (0b01101000_011010_001100_111001001101, .bVF32 26 12 3661),
   (0b01001100_010110_011101_010001_000011, .bDown 22 29 17),
   (0b01001100_111010_011110_001111_000100, .bGate 58 30 15),
   (0b01001100_100101_100011_100010_000101, .bHalt 37 35 34),
   (0b01001100_100000_100001_011001_000110, .bHint 32 33 25),
   (0b01101001_011111_010111_100100000000, .bHintI 31 23 2304),
   (0b01101010_100000001101100011000010, .bI 8444098),
   (0b01101011_000100101111010010110010, .bLinkI 1242290),
   (0b01001100_001101_000000_111100_000111, .bLink 13 0 60)]

theorem test_branch_words : decodesAll branchWords = true := by decide +kernel

noncomputable def storeAtomicWords : List (Word × Instr) :=
  [(0b01101100_111001_101111_000101_000000, .sDCS64AB 57 47 5),
   (0b01101100_011101_001111_000110_000001, .sDCS64AL 29 15 6),
   (0b01101101_011000_001001_111001011111, .sASI64AB 24 9 3679),
   (0b01101110_100001_000000_011011110110, .sASI64AL 33 0 1782),
   (0b01101111_000100_101111_000101101001, .sCSI64AB 4 47 361),
   (0b01110000_011010_100000_101001111000, .sCSI64AL 26 32 2680),
   (0b01110001_110100_101111_001001111110, .sMSI64AB 52 47 638),
   (0b01110010_011010_000100_001000000110, .sMSI64AL 26 4 518),
   (0b01101100_110100_001100_110010_000010, .sAS64AB 52 12 50),
   (0b01101100_001011_010100_110010_000011, .sAS64AL 11 20 50),
   (0b01101100_110100_100100_100111_000100, .sCS64AB 52 36 39),
   (0b01101100_000110_100111_101101_000101, .sCS64AL 6 39 45),
   (0b01101100_110101_000010_101110_000110, .sMS64AB 53 2 46),
   (0b01101100_110010_110011_011010_000111, .sMS64AL 50 51 26)]

theorem test_storeAtomic_words : decodesAll storeAtomicWords = true := by decide +kernel

noncomputable def groupArithWords1 : List (Word × Instr) :=
  [(0b01110011_110111_010100_110110_000000, .gAddH8C 55 20 54),
   (0b01110011_001011_110011_101110_000001, .gAddH8F 11 51 46),
   (0b01110011_010100_010000_000001_000010, .gAddH8N 20 16 1),
   (0b01110011_010010_110010_001011_000011, .gAddH8Z 18 50 11),
   (0b01110011_010101_010010_101100_000100, .gAddH16C 21 18 44),
   (0b01110011_010100_010101_001000_000101, .gAddH16F 20 21 8),
   (0b01110011_110001_111110_011001_000110, .gAddH16N 49 62 25),
   (0b01110011_010000_000101_111101_000111, .gAddH16Z 16 5 61),
   (0b01110011_000110_110001_001011_001000, .gAddH32C 6 49 11),
   (0b01110011_011100_110011_011001_001001, .gAddH32F 28 51 25),
   (0b01110011_010111_011011_000101_001010, .gAddH32N 23 27 5),
   (0b01110011_010100_110001_101101_001011, .gAddH32Z 20 49 45),
   (0b01110011_010011_011111_011000_001100, .gAddH64C 19 31 24),
   (0b01110011_000100_101001_001111_001101, .gAddH64F 4 41 15),
   (0b01110011_111010_100111_110101_001110, .gAddH64N 58 39 53),
   (0b01110011_110110_110001_101111_001111, .gAddH64Z 54 49 47),
   (0b01110011_111000_010110_000010_010000, .gAddH128C 56 22 2),
   (0b01110011_111110_111011_011110_010001, .gAddH128F 62 59 30),
   (0b01110011_111010_010110_111100_010010, .gAddH128N 58 22 60),
   (0b01110011_001101_001000_010000_010011, .gAddH128Z 13 8 16),
   (0b01110011_110111_101110_001011_010100, .gAddHU8C 55 46 11),
   (0b01110011_000101_010000_001010_010101, .gAddHU8F 5 16 10),
   (0b01110011_001010_000110_110000_010110, .gAddHU8N 10 6 48),
   (0b01110011_000011_001000_001110_010111, .gAddHU16C 3 8 14),
   (0b01110011_010000_111110_100100_011000, .gAddHU16F 16 62 36),
   (0b01110011_011100_001000_101100_011001, .gAddHU16N 28 8 44),
   (0b01110011_010100_101001_100011_011010, .gAddHU32C 20 41 35),
   (0b01110011_010010_100000_111101_011011, .gAddHU32F 18 32 61),
   (0b01110011_100001_011110_101000_011100, .gAddHU32N 33 30 40),
   (0b01110011_000100_011001_010111_011101, .gAddHU64C 4 25 23),
   (0b01110011_010100_100011_101001_011110, .gAddHU64F 20 35 41),
   (0b01110011_010101_100001_001110_011111, .gAddHU64N 21 33 14),
   (0b01110011_101110_111001_001101_100000, .gAddHU128C 46 57 13),
   (0b01110011_110010_101111_100001_100001, .gAddHU128F 50 47 33),
   (0b01110011_101111_010010_101110_100010, .gAddHU128N 47 18 46),
   (0b0111010_0_001010_00_1001011110111111, .gCopyI16 0 10 38847),
   (0b0111010_0_100000_01_0111000101111010, .gCopyI32 0 32 29050),
   (0b0111010_1_010011_10_0001100001110110, .gCopyI64 1 19 6262),
   (0b0111010_0_010000_11_0001101111011001, .gCopyI128 0 16 7129),
   (0b01110011_000000_101101_100110_100011, .gAaa8 0 45 38)]

theorem test_groupArith_words_1 : decodesAll groupArithWords1 = true := by decide +kernel

noncomputable def groupArithWords2 : List (Word × Instr) :=
  [(0b01110011_101101_011100_110100_100100, .gAaa16 45 28 52),
   (0b01110011_010001_011010_101110_100101, .gAaa32 17 26 46),
   (0b01110011_010100_010001_000001_100110, .gAaa64 20 17 1),
   (0b01110011_010011_111001_001100_100111, .gAaa128 19 57 12),
   (0b01110011_010010_100010_110011_101000, .gAsa8 18 34 51),
   (0b01110011_000001_000111_101100_101001, .gAsa16 1 7 44),
   (0b01110011_111111_011111_010101_101010, .gAsa32 63 31 21),
   (0b01110011_000101_000111_000011_101011, .gAsa64 5 7 3),
   (0b01110011_010111_011110_010100_101100, .gAsa128 23 30 20),
   (0b01001010_001101_000001_011001_0010_11, .gShlIAdd8 13 1 25 4),
   (0b01001010_011001_110101_010110_0011_00, .gShlIAdd16 25 53 22 1),
   (0b01001010_100110_000110_111101_0100_11, .gShlIAdd32 38 6 61 4),
   (0b01001010_110111_111011_001010_0101_01, .gShlIAdd64 55 59 10 2),
   (0b01001010_011100_001101_100001_0110_00, .gShlIAdd128 28 13 33 1),
   (0b01001010_001111_101010_100001_0111_10, .gShlISub8 15 42 33 3),
   (0b01001010_110111_100001_100101_1000_00, .gShlISub16 55 33 37 1),
   (0b01001010_000001_010101_100001_1001_01, .gShlISub32 1 21 33 2),
   (0b01001010_010100_101001_011000_1010_10, .gShlISub64 20 41 24 3),
   (0b01001010_011110_110000_111100_1011_00, .gShlISub128 30 48 60 1)]

theorem test_groupArith_words_2 : decodesAll groupArithWords2 = true := by decide +kernel

noncomputable def groupImmediateWords1 : List (Word × Instr) :=
  [(0b01110110_110111_011101_00_1100100001, .gAddI16 55 29 801),
   (0b01110111_001001_010101_00_0000110111, .gAddI16O 9 21 55),
   (0b01110110_001110_001101_01_0100100010, .gAddI32 14 13 290),
   (0b01110111_000011_000101_01_0001011111, .gAddI32O 3 5 95),
   (0b01110110_001000_101110_10_0011011011, .gAddI64 8 46 219),
   (0b01110111_011111_011010_10_0001000110, .gAddI64O 31 26 70),
   (0b01110110_001011_100100_11_0100001111, .gAddI128 11 36 271),
   (0b01110111_001100_011010_11_1010110001, .gAddI128O 12 26 689),
   (0b01111000_110110_100001_00_1000001101, .gAddIU16O 54 33 525),
   (0b01111000_100100_000110_01_1111001111, .gAddIU32O 36 6 975),
   (0b01111000_100100_000011_10_0011001001, .gAddIU64O 36 3 201),
   (0b01111000_101100_111100_11_0010111010, .gAddIU128O 44 60 186),
   (0b01111001_100100_010101_00_0110011101, .gAndI16 36 21 413),
   (0b01111001_100100_000110_01_1111101101, .gAndI32 36 6 1005),
   (0b01111001_001100_111110_10_1011000111, .gAndI64 12 62 711),
   (0b01111001_100001_010100_11_0111011010, .gAndI128 33 20 474),
   (0b01111010_111111_010101_00_1111101100, .gNandI16 63 21 1004),
   (0b01111010_001101_101001_01_1100110101, .gNandI32 13 41 821),
   (0b01111010_110010_001011_10_1011111001, .gNandI64 50 11 761),
   (0b01111010_011010_100110_11_0101011110, .gNandI128 26 38 350),
   (0b01111011_110000_011101_00_0001000101, .gNorI16 48 29 69),
   (0b01111011_101100_101001_01_1010010110, .gNorI32 44 41 662),
   (0b01111011_010101_111011_10_0111011001, .gNorI64 21 59 473),
   (0b01111011_010000_101010_11_0110001000, .gNorI128 16 42 392),
   (0b01111100_100010_100110_00_1010011100, .gOrI16 34 38 668),
   (0b01111100_101100_010100_01_0110000011, .gOrI32 44 20 387),
   (0b01111100_100001_001101_10_1100010010, .gOrI64 33 13 786),
   (0b01111100_010011_010010_11_1000110000, .gOrI128 19 18 560),
   (0b01111101_011001_001101_00_1100011011, .gXorI16 25 13 795),
   (0b01111101_111011_000100_01_1101111110, .gXorI32 59 4 894),
   (0b01111101_011100_100101_10_0100100010, .gXorI64 28 37 290),
   (0b01111101_100000_110011_11_1101110000, .gXorI128 32 51 880),
   (0b01111110_110101_011101_00_1110100001, .gSetAndEI16 53 29 929),
   (0b01111110_110111_101000_01_1101011011, .gSetAndEI32 55 40 859),
   (0b01111110_011111_110011_10_1101100011, .gSetAndEI64 31 51 867),
   (0b01111110_111101_111010_11_0101110110, .gSetAndEI128 61 58 374),
   (0b01111111_101001_000001_00_0011011001, .gSetAndNeI16 41 1 217),
   (0b01111111_000100_100000_01_0110011001, .gSetAndNeI32 4 32 409),
   (0b01111111_101100_001100_10_1111001110, .gSetAndNeI64 44 12 974),
   (0b01111111_000010_101111_11_1110100111, .gSetAndNeI128 2 47 935)]

theorem test_groupImmediate_words_1 : decodesAll groupImmediateWords1 = true := by decide +kernel

noncomputable def groupImmediateWords2 : List (Word × Instr) :=
  [(0b10000000_011010_010111_00_1011011000, .gSetEI16 26 23 728),
   (0b10000000_000111_100000_01_1100110010, .gSetEI32 7 32 818),
   (0b10000000_000111_000001_10_1101011101, .gSetEI64 7 1 861),
   (0b10000000_101101_100001_11_1001101101, .gSetEI128 45 33 621),
   (0b10000001_110011_011100_00_0110110010, .gSetGeI16 51 28 434),
   (0b10000001_010101_010000_01_1111000000, .gSetGeI32 21 16 960),
   (0b10000001_011100_010010_10_1110111110, .gSetGeI64 28 18 958),
   (0b10000001_100101_010000_11_0111010111, .gSetGeI128 37 16 471),
   (0b10000010_100010_110000_00_0101111100, .gSetGeIU16 34 48 380),
   (0b10000010_111101_000000_01_0111110101, .gSetGeIU32 61 0 501),
   (0b10000010_100110_101001_10_1101101101, .gSetGeIU64 38 41 877),
   (0b10000010_001010_101110_11_1100010100, .gSetGeIU128 10 46 788),
   (0b10000011_000111_001010_00_1011000010, .gSetLI16 7 10 706),
   (0b10000011_000001_011010_01_1000000000, .gSetLI32 1 26 512),
   (0b10000011_001100_010010_10_1110011101, .gSetLI64 12 18 925),
   (0b10000011_101100_010011_11_0101010111, .gSetLI128 44 19 343),
   (0b10000100_001011_100110_00_0110110100, .gSetLIU16 11 38 436),
   (0b10000100_001010_111000_01_1000011101, .gSetLIU32 10 56 541),
   (0b10000100_110101_011101_10_1111110001, .gSetLIU64 53 29 1009),
   (0b10000100_000111_111101_11_1111101110, .gSetLIU128 7 61 1006),
   (0b10000101_011111_111111_00_0101001000, .gSetNeI16 31 63 328),
   (0b10000101_101001_111011_01_1110111001, .gSetNeI32 41 59 953),
   (0b10000101_101111_110110_10_0101110001, .gSetNeI64 47 54 369),
   (0b10000101_101110_000011_11_1010100100, .gSetNeI128 46 3 676),
   (0b10000110_001100_111101_00_0001000101, .gSubI16 12 61 69),
   (0b10000111_011011_110101_00_0011000001, .gSubI16O 27 53 193),
   (0b10000110_101110_101011_01_1001000101, .gSubI32 46 43 581),
   (0b10000111_110111_101011_01_0001101011, .gSubI32O 55 43 107),
   (0b10000110_100101_101101_10_1010101011, .gSubI64 37 45 683),
   (0b10000111_100010_101100_10_0011110001, .gSubI64O 34 44 241),
   (0b10000110_101010_011000_11_0100000101, .gSubI128 42 24 261),
   (0b10000111_001011_000101_11_1100110000, .gSubI128O 11 5 816),
   (0b10001000_100110_001101_00_0110000100, .gSubIU16O 38 13 388),
   (0b10001000_111100_000111_01_0010101001, .gSubIU32O 60 7 169),
   (0b10001000_011011_000101_10_0011001111, .gSubIU64O 27 5 207),
   (0b10001000_010111_000100_11_0000011011, .gSubIU128O 23 4 27)]

theorem test_groupImmediate_words_2 : decodesAll groupImmediateWords2 = true := by decide +kernel

theorem test_zero_word : decode 0#32 = .instr (.aRes 0) := by decide +kernel

theorem test_word_without_instruction : decode 0xFF000000#32 = .unassigned := by decide +kernel

theorem test_table_word : decodeTableWord 32 0x01105193 = some (.lU16AB 4 5 6) := by decide +kernel

/-! ### One step on small states -/

/-- Consecutive bytes from an address on. -/
def bytesFrom (a : Nat) : List Byte → List (Nat × Byte)
  | [] => []
  | b :: bs => (a, b) :: bytesFrom (a + 1) bs

/-- The machine at `pc = 0x1000` with some registers and some bytes of memory, all else as after reset, but that a 64-bit
write clears the upper half of its register, so that the kernel can evaluate what it leaves. -/
def machine (regs : List (Reg × Hexlet)) (bytes : List (Nat × Byte)) : State :=
  { regs.foldl (fun s p => s.setReg p.1 p.2) State.reset with
    pc := 0x1000#64, mem := bytes.foldl (fun m p => m.write p.1 p.2) Memory.empty
    params := { Config.defaultParams with upperWrite := .zero } }

/-- An instruction answers a next state of which `f` holds. -/
def answers (r : Result) (f : State → Bool) : Bool :=
  match r with
  | .next t => f t
  | .fault _ => false
  | .refused _ => false

/-- An instruction raises an exception at `pc`. -/
def faults (r : Result) (e : Exn) (pc : Octlet) : Bool :=
  match r with
  | .next _ => false
  | .fault f => f == .raised e pc
  | .refused _ => false

/-- The bytes of memory from an address on. -/
def memoryAt (s : State) (a n : Nat) : List Byte := (List.range n).map fun k => s.mem.read (a + k)

/-- The bytes the load vectors read. -/
def loadBytes : List (Nat × Byte) :=
  bytesFrom 0x1000 [0x80, 0x81, 0x82, 0x83, 0x84, 0x85, 0x86, 0x87, 0x88, 0x89, 0x8A, 0x8B, 0x8C, 0x8D, 0x8E, 0x8F,
    0x10, 0x11, 0x12, 0x13, 0x14, 0x15, 0x16, 0x17, 0x18, 0x19, 0x1A, 0x1B, 0x1C, 0x1D, 0x1E, 0x1F]

/-- The bytes the store vectors find at 0x2000. -/
def storeBytes : List (Nat × Byte) :=
  bytesFrom 0x2000 [0xE0, 0xE1, 0xE2, 0xE3, 0xE4, 0xE5, 0xE6, 0xE7, 0xE8, 0xE9, 0xEA, 0xEB, 0xEC, 0xED, 0xEE, 0xEF]

/-- The bytes the swap vectors find at 0x3000. -/
def swapBytes : List (Nat × Byte) :=
  bytesFrom 0x3000 [0x01, 0x02, 0x03, 0x04, 0x05, 0x06, 0x07, 0x08, 0xF0, 0xF1, 0xF2, 0xF3, 0xF4, 0xF5, 0xF6, 0xF7]

/-- Vector V3: an unaligned base is allowed without `A`, the index is scaled by 2, the value sign-extended. -/
theorem test_l16L : answers (exec (.l16L 3 1 2) (machine [(1, 0x1001), (2, 3)] loadBytes))
    (fun t => t.reg 3 == 0xFFFFFFFFFFFFFFFFFFFFFFFFFFFF8887 && t.pc == 0x1004) = true := by decide +kernel

/-- Vector V4: the other byte order. -/
theorem test_l16B : answers (exec (.l16B 3 1 2) (machine [(1, 0x1001), (2, 3)] loadBytes))
    (fun t => t.reg 3 == 0xFFFFFFFFFFFFFFFFFFFFFFFFFFFF8788) = true := by decide +kernel

/-- Vector V6. -/
theorem test_lU16AB : answers (exec (.lU16AB 3 1 2) (machine [(1, 0x1000), (2, 8)] loadBytes))
    (fun t => t.reg 3 == 0x1011) = true := by decide +kernel

/-- Vector V16. -/
theorem test_l128L : answers (exec (.l128L 3 1 2) (machine [(1, 0x1008)] loadBytes))
    (fun t => t.reg 3 == 0x17161514131211108F8E8D8C8B8A8988) = true := by decide +kernel

/-- Vector V19: the most negative offset. -/
theorem test_lI64AB : answers (exec (.lI64AB 3 1 0x800) (machine [(1, 0x5000)] loadBytes))
    (fun t => t.reg 3 == 0xFFFFFFFFFFFFFFFF8081828384858687) = true := by decide +kernel

/-- Vector V27. -/
theorem test_s16B : answers (exec (.s16B 3 1 2)
      (machine [(1, 0x2001), (2, 1), (3, 0x0123456789ABCDEF1122334455667788)] storeBytes))
    (fun t => memoryAt t 0x2002 4 == [0xE2, 0x77, 0x88, 0xE5]) = true := by decide +kernel

/-- Vector V34. -/
theorem test_s128B : answers (exec (.s128B 3 1 2)
      (machine [(1, 0x2000), (2, 1), (3, 0x0123456789ABCDEF1122334455667788)] storeBytes))
    (fun t => memoryAt t 0x2010 16 == [0x01, 0x23, 0x45, 0x67, 0x89, 0xAB, 0xCD, 0xEF, 0x11, 0x22, 0x33, 0x44, 0x55, 0x66,
      0x77, 0x88] && t.pc == 0x1004) = true := by decide +kernel

/-- Vector V41. -/
theorem test_sMux64AL : answers (exec (.sMux64AL 3 1 2)
      (machine [(1, 0x2000), (2, 1), (3, 0x112233445566778800000000FFFF00FF)] storeBytes))
    (fun t => memoryAt t 0x2008 8 == [0x88, 0xE9, 0x66, 0x55, 0xEC, 0xED, 0xEE, 0xEF]) = true := by decide +kernel

/-- Vector V45. -/
theorem test_sAS64AL : answers (exec (.sAS64AL 3 1 2) (machine [(1, 0x3000), (2, 1), (3, 0x10)] swapBytes))
    (fun t => memoryAt t 0x3008 8 == [0x00, 0xF2, 0xF2, 0xF3, 0xF4, 0xF5, 0xF6, 0xF7] &&
      t.lo 3 == 0xF7F6F5F4F3F2F1F0) = true := by decide +kernel

/-- Vector V48: the expected value matches. -/
theorem test_sCS64AL_swaps : answers (exec (.sCS64AL 3 1 2)
      (machine [(1, 0x3000), (3, 0xAAAAAAAAAAAAAAAA0807060504030201)] swapBytes))
    (fun t => memoryAt t 0x3000 9 == [0xAA, 0xAA, 0xAA, 0xAA, 0xAA, 0xAA, 0xAA, 0xAA, 0xF0] &&
      t.lo 3 == 0x0807060504030201) = true := by decide +kernel

/-- Vector V49: the expected value differs. -/
theorem test_sCS64AL_keeps : answers (exec (.sCS64AL 3 1 2)
      (machine [(1, 0x3000), (3, 0xAAAAAAAAAAAAAAAA0807060504030200)] swapBytes))
    (fun t => memoryAt t 0x3000 8 == [0x01, 0x02, 0x03, 0x04, 0x05, 0x06, 0x07, 0x08] &&
      t.lo 3 == 0x0807060504030201) = true := by decide +kernel

/-- Vector V51. -/
theorem test_sMS64AB : answers (exec (.sMS64AB 3 1 2)
      (machine [(1, 0x3000), (3, 0xFFFFFFFFFFFFFFFFFF000000000000FF)] swapBytes))
    (fun t => memoryAt t 0x3000 8 == [0xFF, 0x02, 0x03, 0x04, 0x05, 0x06, 0x07, 0xFF] &&
      t.lo 3 == 0x0102030405060708) = true := by decide +kernel

/-- Vector V55: both match. -/
theorem test_sDCS64AL : answers (exec (.sDCS64AL 3 1 2)
      (machine [(1, 0x08070605040302010000000000003000), (2, 0xF7F6F5F4F3F2F1F00000000000003008),
        (3, 0x11111111111111112222222222222222)] swapBytes))
    (fun t => memoryAt t 0x3000 16 == List.replicate 8 0x11 ++ List.replicate 8 0x22 &&
      t.reg 3 == 0x0807060504030201F7F6F5F4F3F2F1F0) = true := by decide +kernel

/-- Vector V57: both addresses equal, the second store remains. -/
theorem test_sDCS64AB_same_address : answers (exec (.sDCS64AB 3 1 2)
      (machine [(1, 0x01020304050607080000000000003000), (2, 0x01020304050607080000000000003000),
        (3, 0x11111111111111112222222222222222)] swapBytes))
    (fun t => memoryAt t 0x3000 9 == List.replicate 8 0x22 ++ [0xF0] &&
      t.reg 3 == 0x01020304050607080102030405060708) = true := by decide +kernel

/-- Vector V70: the upper half under `sext`. -/
theorem test_aAdd_sext :
    answers (exec (.aAdd 3 1 2) { machine [(1, 0x7FFFFFFFFFFFFFFF), (2, 1)] [] with
        params := { Config.defaultParams with upperWrite := .sext } })
    (fun t => t.reg 3 == 0xFFFFFFFFFFFFFFFF8000000000000000) = true := by decide +kernel

/-- Vector V71: the upper half under `preserve`. -/
theorem test_aAdd_preserve :
    answers (exec (.aAdd 3 1 2)
      { machine [(1, 0x7FFFFFFFFFFFFFFF), (2, 1), (3, 0x12345678000000000000000000000000)] [] with
        params := { Config.defaultParams with upperWrite := .preserve } })
    (fun t => t.reg 3 == 0x12345678000000008000000000000000) = true := by decide +kernel

/-- Vector V61. -/
theorem test_aAddO_raises : faults (exec (.aAddO 3 1 2) (machine [(1, 0x7FFFFFFFFFFFFFFF), (2, 1)] []))
    .fixedPointArithmetic 0x1000 = true := by decide +kernel

/-- Vector V62. -/
theorem test_aAddO : answers (exec (.aAddO 3 1 2) (machine [(1, 0x8000000000000000), (2, 0x7FFFFFFFFFFFFFFF)] []))
    (fun t => t.lo 3 == 0xFFFFFFFFFFFFFFFF) = true := by decide +kernel

/-- Vector V79, under `zext_both`. -/
theorem test_aAddIUO_raises : faults (exec (.aAddIUO 3 1 0xFFF) (machine [(1, 5)] []))
    .fixedPointArithmetic 0x1000 = true := by decide +kernel

/-- Vector V80, under `zext_c`. -/
theorem test_aAddIUO_zextC :
    answers (exec (.aAddIUO 3 1 0xFFF)
      { machine [(1, 5)] [] with params := { Config.defaultParams with upperWrite := .zero, uoReading := .zextC } })
    (fun t => t.lo 3 == 4) = true := by decide +kernel

/-- Vector V85. -/
theorem test_aSubIUO : answers (exec (.aSubIUO 3 1 0x7FF) (machine [(1, 0x7FF)] []))
    (fun t => t.lo 3 == 0) = true := by decide +kernel

/-- Vector V98: one register twice compares with zero, signed. -/
theorem test_aSetLU_same : answers (exec (.aSetLU 3 1 1) (machine [(1, 0xFFFFFFFFFFFFFFFFFFFFFFFFFFFFFFF9)] []))
    (fun t => t.lo 3 == 0) = true := by decide +kernel

/-- Vector V100: equal low halves are not enough at 128 bits. -/
theorem test_aSetE : answers (exec (.aSetE 3 2 1) (machine [(1, 0x10000000000000005), (2, 5)] []))
    (fun t => t.lo 3 == 0) = true := by decide +kernel

/-- Vector V110. -/
theorem test_aComGe_same : faults (exec (.aComGe 1 1) (machine [] [])) .fixedPointArithmetic 0x1000 = true := by
  decide +kernel

/-- Vector V115. -/
theorem test_aShlIO : answers (exec (.aShlIO 3 1 0x3E) (machine [(1, 1)] []))
    (fun t => t.lo 3 == 0x4000000000000000) = true := by decide +kernel

/-- Vector V116. -/
theorem test_aShlIO_raises : faults (exec (.aShlIO 3 1 0x3F) (machine [(1, 1)] [])) .fixedPointArithmetic 0x1000 = true := by
  decide +kernel

/-- Vector V125. -/
theorem test_aShlISub : answers (exec (.aShlISub 3 1 2 1) (machine [(1, 5), (2, 2)] []))
    (fun t => t.lo 3 == 0xFFFFFFFFFFFFFFFF) = true := by decide +kernel

/-- Vector V126. -/
theorem test_aMux : answers (exec (.aMux 3 1 2 4)
      (machine [(3, 0xFFFFFFFF00000000), (1, 0x1111111111111111), (2, 0x2222222222222222)] []))
    (fun t => t.lo 4 == 0x1111111122222222) = true := by decide +kernel

/-- Vector V132: the fields are tested before the target. -/
theorem test_b_reserved : faults (exec (.b 5 1 0) (machine [(5, 0x2001)] [])) .reservedInstruction 0x1000 = true := by
  decide +kernel

/-- Vector V143. -/
theorem test_bLU_same : answers (exec (.bLU 1 1 0x10) (machine [(1, 1)] [])) (fun t => t.pc == 0x1040) = true := by
  decide +kernel

/-- Vector V150: a NaN is not equal to itself. -/
theorem test_bEF32_nan : answers (exec (.bEF32 1 2 0x10) (machine [(1, 0x7FC00000), (2, 0x7FC00000)] []))
    (fun t => t.pc == 0x1004) = true := by decide +kernel

/-- Vector V154: subnormals. -/
theorem test_bLF16 : answers (exec (.bLF16 1 2 0x10) (machine [(1, 0xFFFFFFFFFFFF0001), (2, 2)] []))
    (fun t => t.pc == 0x1040) = true := by decide +kernel

/-- Vector V158: both points inside. -/
theorem test_bVF32 : answers (exec (.bVF32 1 2 0x10)
      (machine [(1, 0x3F8000003F400000BF0000003E800000), (2, 0x3F8000003F6000003F0000003F000000)] []))
    (fun t => t.pc == 0x1040) = true := by decide +kernel

/-- Vector V168. -/
theorem test_bDown : answers (exec (.bDown 5 0 0) (machine [(5, 0x4001)] []))
    (fun t => t.pc == 0x4000 && t.privilegeLevel == 1) = true := by decide +kernel

/-- The machine of the gateway vectors: level 1, the gateway octlet 0x20003 at 0x8000. -/
def gateMachine (x5 : Hexlet) : State :=
  { machine [(1, 0x8000), (5, x5)] (bytesFrom 0x8000 [0x03, 0x00, 0x02]) with pc := 0x4000#64, privilegeLevel := 1 }

/-- Vector V171. -/
theorem test_bGate : answers (exec (.bGate 0 1 5) (gateMachine 0x20003))
    (fun t => t.pc == 0x20000 && t.privilegeLevel == 3 && t.lo 0 == 0x4005) = true := by decide +kernel

/-- Vector V172. -/
theorem test_bGate_disallowed : faults (exec (.bGate 0 1 5) (gateMachine 0x20002)) .gatewayDisallowed 0x4000 = true := by
  decide +kernel

/-- The machine of the return vector: thread 1, its area 128 bytes past `ExceptionBase`. -/
def backMachine : State :=
  { machine [(0, 0x4006)] (bytesFrom 0x10080 [0xA0, 0xA1, 0xA2, 0xA3, 0xA4, 0xA5, 0xA6, 0xA7, 0xA8, 0xA9, 0xAA, 0xAB, 0xAC,
      0xAD, 0xAE, 0xAF]) with
    exceptionBase := 0x10000#64, thread := 1#64, exceptionState := 5 }

/-- Vector V178. -/
theorem test_bBack : answers (exec (.bBack 0 0 0) backMachine)
    (fun t => t.pc == 0x4004 && t.privilegeLevel == 2 && t.exceptionState == 0 &&
      t.reg 0 == 0xAFAEADACABAAA9A8A7A6A5A4A3A2A1A0) = true := by decide +kernel

/-- Vector V188. -/
theorem test_bLinkI : answers (exec (.bLinkI 0xFFFFFE) (machine [] []))
    (fun t => t.pc == 0xFF8 && t.lo 0 == 0x1004) = true := by decide +kernel

/-- Vector V191: the target is read before the link is written. -/
theorem test_bLink_same_register : answers (exec (.bLink 5 5 0) (machine [(5, 0x3000)] []))
    (fun t => t.pc == 0x3000 && t.lo 5 == 0x1004) = true := by decide +kernel

/-- Vector V196. -/
theorem test_gAddH8N : answers (exec (.gAddH8N 3 1 2)
      (machine [(1, 0x7F80FFFE01020001FF80FF7F00010203), (2, 0x7F80FFFF00010000FF800180FFFFFFFE)] []))
    (fun t => t.reg 3 == 0x7F80FFFF01010001FF8000FFFF000101) = true := by decide +kernel

/-- Vector V199. -/
theorem test_gAddHU8F : answers (exec (.gAddHU8F 3 1 2)
      (machine [(1, 0x7F80FFFE01020001FF80FF7F00010203), (2, 0x7F80FFFF00010000FF800180FFFFFFFE)] []))
    (fun t => t.reg 3 == 0x7F80FFFE00010000FF80807F7F808080) = true := by decide +kernel

/-- Vector V207. -/
theorem test_gCopyI16_reserved : faults (exec (.gCopyI16 1 3 0) (machine [] [])) .reservedInstruction 0x1000 = true := by
  decide +kernel

/-- Vector V214. -/
theorem test_gAsa16 : answers (exec (.gAsa16 3 1 2)
      (machine [(3, 0x0001000200030004FFFFFFFEFFFDFFFC), (1, 0x00100010001000100001000100010001),
        (2, 0x01000100010001000003000300030003)] []))
    (fun t => t.reg 3 == 0x00F100F200F300F400010000FFFFFFFE) = true := by decide +kernel

/-- Vector V219. -/
theorem test_gShlISub32 : answers (exec (.gShlISub32 3 1 2 2)
      (machine [(1, 0x00000001000000050000000000000009), (2, 0x00000001400000010000000000000002)] []))
    (fun t => t.reg 3 == 0x00000003FFFFFFFF00000000FFFFFFFF) = true := by decide +kernel

/-- Vector V223: one lane overflows, no lane is written. -/
theorem test_gAddI32O_raises : faults (exec (.gAddI32O 3 1 0x1FF)
      (machine [(1, 0x7FFFFE01000000000000000080000000)] [])) .fixedPointArithmetic 0x1000 = true := by decide +kernel

/-- Vector V233. -/
theorem test_gSubIU32O : answers (exec (.gSubIU32O 3 1 0x1FF) (machine [(1, 0x000001FF000001FE0000000000000001)] []))
    (fun t => t.reg 3 == 0x0000000000000001000001FF000001FE) = true := by decide +kernel

/-- Vector V239. -/
theorem test_gSetGeI16 : answers (exec (.gSetGeI16 3 1 0x3FF) (machine [(1, 0x7FFF8000FFFF000100000000000001FF)] []))
    (fun t => t.reg 3 == 0x0000FFFFFFFF00000000000000000000) = true := by decide +kernel

/-- Vector V240. -/
theorem test_gSetGeIU16 : answers (exec (.gSetGeIU16 3 1 0x3FF) (machine [(1, 0x7FFF8000FFFF000100000000000001FF)] []))
    (fun t => t.reg 3 == 0xFFFFFFFFFFFFFFFFFFFFFFFFFFFFFFFF) = true := by decide +kernel

/-- A fetched word runs: A.AND.I at 0x1000 clears the low half of x[3]. -/
theorem test_step : answers (step ((machine [(3, 7)] []).withFetchWord 32 (encode (.aAndI 3 3 0)).toNat))
    (fun t => t.lo 3 == 0 && t.pc == 0x1004) = true := by decide +kernel

/-- Another operation-code map: the upper seven bits of every code complemented. -/
def complementedMap : OpcodeMap := { codes := opcodeMap.codes.map (· ^^^ 0xFE000000) }

theorem test_complemented_map_valid : complementedMap.valid = true := by decide +kernel

/-- The same step under the other map. -/
theorem test_step_other_map :
    answers (step (({ machine [(3, 7)] [] with
        params := { (machine [] []).params with opcodeMap := complementedMap } }).withFetchWord 32
          (encodeWith complementedMap (.aAndI 3 3 0)).toNat))
    (fun t => t.lo 3 == 0 && t.pc == 0x1004) = true := by decide +kernel

/-- With 32 registers an instruction on x[31] runs and one on x[32] is refused; a count that is no register is not. -/
theorem test_step_nreg :
    let run := fun i => step (({ machine [] [] with
      params := { (machine [] []).params with nreg := 32 } }).withFetchWord 32 (encode i).toNat)
    answers (run (.aAndI 31 31 0)) (fun t => t.pc == 0x1004) = true ∧
      answers (run (.aAndI 32 31 0)) (fun _ => true) = false ∧
      answers (run (.aShlI 31 31 63)) (fun t => t.pc == 0x1004) = true ∧
      answers (run (.bHintI 63 63 0)) (fun t => t.pc == 0x1004) = true := by decide +kernel

/-- With 32 registers a field that must be 0 names none: 40 in it raises "Reserved Instruction", in B and in B.HALT. -/
theorem test_step_nreg_reserved :
    let run := fun i => step (({ machine [] [] with
      params := { (machine [] []).params with nreg := 32 } }).withFetchWord 32 (encode i).toNat)
    faults (run (.b 5 40 0)) .reservedInstruction 0x1000 = true ∧
      faults (run (.bHalt 40 0 0)) .reservedInstruction 0x1000 = true ∧
      answers (run (.b 40 0 0)) (fun _ => true) = false ∧ faults (run (.b 40 0 0)) .reservedInstruction 0x1000 = false := by
  decide +kernel

/-- A machine of `machine` in which one byte, at 0x2000, may be read, and it is at an I/O address. -/
def ioByte : State :=
  { machine [(1, 0x2000)] [] with
    params := { (machine [] []).params with translation :=
      [{ baLo := 0, baHi := 2 ^ 64, vaLo := 0x2000, vaHi := 0x2001, kinds := [.read], levels := [3]
         action := .map .io 0xFFFFFFFF }] } }

/-- A byte at an I/O address is refused. -/
theorem test_io_refused : exec (.lI8 3 1 0) ioByte = .refused .ioTransaction := rfl

/-- The exception of a later byte comes before that; and an address past 2^32 - 1 is outside the physical space. -/
theorem test_physical_space :
    faults (exec (.lIU16L 3 1 0) ioByte) (.access .disallowedByVirtualAddress) 0x1000 = true ∧
      faults (exec (.lI8 3 1 0) (machine [(1, 0x100000000)] [])) (.access .disallowedByVirtualAddress) 0x1000 = true := by
  decide +kernel

/-- Physical addresses wrap at 2^32 within a rule of the translation. -/
theorem test_physical_wrap :
    let s := { machine [(1, 0x2000)] [(0xFFFFFFFF, 0x81), (0, 0x82)] with
      params := { (machine [] []).params with translation :=
        [{ baLo := 0, baHi := 2 ^ 64, vaLo := 0x2000, vaHi := 0x2002, kinds := [.read], levels := [3]
           action := .map .memory 0xFFFFFFFF }] } }
    answers (exec (.lIU16L 3 1 0) s) (fun t => t.reg 3 == 0x8281) = true := by decide +kernel

/-- Where a run goes on after an exception, A.RES goes on in the state of trap entry. -/
theorem test_aRes_continues :
    let s := withTrapEntry (machine [] []) .continues
    exec (.aRes 0) s = .next (s.enterTrap .reservedInstruction) := rfl
/-! ### The hypotheses of the obligations can be met

One theorem for each obligation with hypotheses: a state and operands that meet them, for each clause where the clauses
have hypotheses of their own, and at the ends of their ranges. -/

/-- The physical address `a` of memory. -/
def inRam (a : Nat) : PhysicalAddress := { transaction := .memory, address := a }

/-- Under the default translation an access below 2^32 is mapped, each address to itself. -/
theorem maps_identity {s : State} (h : s.params.translation = Config.identityTranslation) (kind : AccessKind)
    (ba va : Octlet) (n : Nat) (hn : va.toNat + n ≤ 2 ^ 32) : s.Maps kind ba va n (fun k => va.toNat + k) := by
  refine ⟨by omega, fun k hk => ?_⟩
  have : (va + BitVec.ofNat 64 k).toNat = va.toNat + k := by
    rw [BitVec.toNat_add, BitVec.toNat_ofNat]
    omega
  rw [State.translate_identity h, this, if_pos]
  unfold physicalSpace
  omega

/-- A rule of translation for the 2^32 virtual addresses from `lo` on, every kind and level. -/
def window (lo : Nat) (transaction : Transaction) : XlatRule :=
  { baLo := 0, baHi := 2 ^ 64, vaLo := lo, vaHi := lo + 2 ^ 32, kinds := [.read, .write, .gateway, .execute]
    levels := [0, 1, 2, 3], action := .map transaction 0 }

/-- What a rule of the kind `window` answers below its first address plus 2^32. -/
theorem translate_window {s : State} {lo : Nat} {tr : Transaction} (h : s.params.translation = [window lo tr])
    (kind : AccessKind) (ba va : Octlet) (h0 : lo ≤ va.toNat) (h1 : va.toNat < lo + 2 ^ 32) :
    s.translate kind ba va = .ok { transaction := tr, address := va.toNat - lo } := by
  have hl : ∀ p : Level, p ∈ ([0, 1, 2, 3] : List Level) := by decide
  have hk : ([.read, .write, .gateway, .execute] : List AccessKind).contains kind = true := by cases kind <;> rfl
  have hp : ([0, 1, 2, 3] : List Level).contains s.privilegeLevel = true := by
    simpa using hl s.privilegeLevel
  have hb := ba.isLt
  have hm : (va.toNat - lo) % 4294967296 = va.toNat - lo := Nat.mod_eq_of_lt (by omega)
  unfold State.translate
  rw [h]
  simp only [window, translateBy, XlatRule.covers, hk, hp]
  simp only [Nat.zero_le, decide_true, h0, h1, hb, Bool.and_self, if_true]
  simp [hm]

/-- A machine of `machine` in which the highest 2^32 virtual addresses are memory. -/
def top (regs : List (Reg × Hexlet)) (mem : List (Nat × Byte)) : State :=
  { machine regs mem with params := { Config.defaultParams with translation := [window (2 ^ 64 - 2 ^ 32) .memory] } }

/-- There an access that does not run past the end is mapped. -/
theorem maps_top {s : State} (h : s.params.translation = [window (2 ^ 64 - 2 ^ 32) .memory]) (kind : AccessKind)
    (ba va : Octlet) (n : Nat) (h0 : 2 ^ 64 - 2 ^ 32 ≤ va.toNat) (hn : va.toNat + n ≤ 2 ^ 64) :
    s.Maps kind ba va n (fun k => va.toNat - (2 ^ 64 - 2 ^ 32) + k) := by
  refine ⟨hn, fun k hk => ?_⟩
  have e : (va + BitVec.ofNat 64 k).toNat = va.toNat + k := by
    rw [BitVec.toNat_add, BitVec.toNat_ofNat]
    omega
  rw [translate_window h kind ba _ (by omega) (by omega), e, Nat.sub_add_comm h0]

/-- A machine of `machine` in which every virtual address from `a` to `a + 2^32 - 1` is an I/O address and every other one
below 2^32 is memory. -/
def ioFrom (a : Nat) (regs : List (Reg × Hexlet)) : State :=
  { machine regs [] with
    params := { Config.defaultParams with translation := window a .io :: Config.identityTranslation } }

/-- With no rule of translation every address is outside `MemDomain`. -/
theorem raises_unmapped {s : State} (h : s.params.translation = []) (kind : AccessKind) (ba va : Octlet) (n : Nat)
    (h0 : 0 < n) (hn : va.toNat + n ≤ 2 ^ 64) :
    TranslationRaises s kind ba va n .disallowedByVirtualAddress := by
  refine ⟨hn, 0, h0, fun j hj => absurd hj (Nat.not_lt_zero j), ?_⟩
  unfold State.translate
  rw [h]
  rfl

/-- A machine of `machine` with no rule of translation. -/
def unmapped (regs : List (Reg × Hexlet)) : State :=
  { machine regs [] with params := { Config.defaultParams with translation := [] } }

/-- A machine of `machine` whose first rule of translation raises "LocalTB miss" for one address. -/
def hole (regs : List (Reg × Hexlet)) (a : Nat) : State :=
  { machine regs [] with
    params := { Config.defaultParams with
      translation := { baLo := 0, baHi := 2 ^ 64, vaLo := a, vaHi := a + 1, kinds := [.read, .write, .gateway, .execute]
                       levels := [0, 1, 2, 3], action := .raise .localTBMiss } :: Config.identityTranslation } }

/-- A word at `pc` that may be fetched and could not be observed old. -/
def Fetches (s : State) (w : Word) : Prop :=
  ∃ pa, s.halted = false ∧ s.Maps .execute s.pc s.pc 4 pa ∧ s.mem.Holds pa s.params.fetchOrder 32 w ∧ s.Fresh 4 pa

theorem fetches_of {s : State} {w : Word} (hh : s.halted = false)
    (ht : s.params.translation = Config.identityTranslation) (hp : s.pc.toNat + 4 ≤ 2 ^ 32)
    (hw : ∀ k < 4, s.mem.read (s.pc.toNat + k) = byteAt s.params.fetchOrder 32 w k)
    (hs : ∀ k < 4, s.staleAt (s.pc.toNat + k) = []) : Fetches s w :=
  ⟨fun k => s.pc.toNat + k, hh, maps_identity ht _ _ _ _ hp, hw, hs⟩

theorem fetches_top {s : State} {w : Word} (hh : s.halted = false)
    (ht : s.params.translation = [window (2 ^ 64 - 2 ^ 32) .memory]) (h0 : 2 ^ 64 - 2 ^ 32 ≤ s.pc.toNat)
    (hp : s.pc.toNat + 4 ≤ 2 ^ 64)
    (hw : ∀ k < 4, s.mem.read (s.pc.toNat - (2 ^ 64 - 2 ^ 32) + k) = byteAt s.params.fetchOrder 32 w k)
    (hs : ∀ k < 4, s.staleAt (s.pc.toNat - (2 ^ 64 - 2 ^ 32) + k) = []) : Fetches s w :=
  ⟨fun k => s.pc.toNat - (2 ^ 64 - 2 ^ 32) + k, hh, maps_top ht _ _ _ _ h0 hp, hw, hs⟩

/-- The word of A.AND.I x3 = x3, 0 stored at the last word of the address space, in a machine that has stored elsewhere. -/
def lastWord : State :=
  { top [(3, 7)] (bytesFrom (2 ^ 32 - 4) [0x00, 0x30, 0x0C, 0x3A]) with
    pc := 0xFFFFFFFFFFFFFFFC#64, stale := [(2 ^ 32 - 5, 1)] }

theorem test_DecodeOfEncode_hypotheses :
    opcodeMap.valid = true ∧ (Instr.aShlIAdd 63 0 1 1).WellFormed ∧ (Instr.aShlIAdd 63 0 1 4).WellFormed := by
  refine ⟨?_, ?_, ?_⟩ <;> decide +kernel

theorem test_EncodeOfDecode_hypotheses :
    decodeWith opcodeMap 0b01110101_000001_10_0000000000000111#32 = .instr (.gCopyI64 1 1 7) := by decide +kernel

/-- A reserved word, and B with `rc` 40, in a machine of 32 registers. -/
theorem test_ReservedWordsRaise_hypotheses :
    (Fetches (machine [] (bytesFrom 0x1000 [0x2D, 0x00, 0x00, 0x73])) 0x7300002D ∧
      decodeWith (machine [] []).params.opcodeMap 0x7300002D = .reserved) ∧
    ∃ (s : State) (w : Word) (i : Instr), s.params.nreg = 32 ∧ Fetches s w ∧
      decodeWith s.params.opcodeMap w = .instr i ∧ ReservedFields i := by
  refine ⟨⟨fetches_of ?_ rfl ?_ ?_ ?_, ?_⟩,
    { machine [] (bytesFrom 0x1000 ((disassemble .little 4 (encode (.b 5 40 0))))) with
      params := { Config.defaultParams with nreg := 32 } }, encode (.b 5 40 0), .b 5 40 0, rfl,
    fetches_of ?_ rfl ?_ ?_ ?_, ?_, .inr (.inr ⟨5, 40, 0, .inl ⟨.inl rfl, .inl ?_⟩⟩)⟩ <;> decide +kernel

/-- `lastWord` with 3 registers: x[3] is not one of them. -/
def lastWordFewRegisters : State := { lastWord with params := { lastWord.params with nreg := 3 } }

theorem test_StepRunsDecodedInstruction_hypotheses :
    (Fetches lastWord 0x3A0C3000 ∧ decodeWith lastWord.params.opcodeMap 0x3A0C3000 = .instr (.aAndI 3 3 0) ∧
      HasRegisters lastWord (Instr.aAndI 3 3 0).registers) ∧
    (Fetches lastWordFewRegisters 0x3A0C3000 ∧
      decodeWith lastWordFewRegisters.params.opcodeMap 0x3A0C3000 = .instr (.aAndI 3 3 0) ∧
      ¬HasRegisters lastWordFewRegisters (Instr.aAndI 3 3 0).registers) ∧
    Fetches (machine [] (bytesFrom 0x1000 [0x00, 0x00, 0x00, 0xFF])) 0xFF000000 ∧
      decodeWith (machine [] []).params.opcodeMap 0xFF000000 = .unassigned := by
  refine ⟨⟨fetches_top ?_ rfl ?_ ?_ ?_ ?_, ?_, ?_⟩, ⟨fetches_top ?_ rfl ?_ ?_ ?_ ?_, ?_, ?_⟩, fetches_of ?_ rfl ?_ ?_ ?_, ?_⟩ <;>
    (try unfold HasRegisters) <;> decide +kernel

theorem test_FetchExceptionFirst_hypotheses :
    (hole [] 0x1003).halted = false ∧
      TranslationRaises (hole [] 0x1003) .execute (hole [] 0x1003).pc (hole [] 0x1003).pc 4 .localTBMiss := by
  refine ⟨rfl, by decide +kernel, 3, by decide, fun j hj => ⟨inRam (0x1000 + j), ?_⟩, rfl⟩
  interval_cases j <;> rfl

theorem test_FetchSeesOldOrNew_hypotheses :
    lastWord.Maps .execute lastWord.pc lastWord.pc 4 (fun k => 2 ^ 32 - 4 + k) ∧
      (machine [] []).Maps .execute (machine [] []).pc (machine [] []).pc 4 (fun k => 0x1000 + k) ∧
      (machine [] []).stale = [] ∧ lastWord.stale ≠ [] :=
  ⟨maps_top rfl _ _ _ _ (by decide) (by decide), maps_identity rfl _ _ _ _ (by decide), rfl, by decide⟩

theorem test_EffectiveAddress_hypotheses : ∃ l l' : Nat, 3 ≤ l ∧ l ≤ 7 ∧ 3 ≤ l' ∧ l' ≤ 7 ∧ l = 3 ∧ l' = 7 :=
  ⟨3, 7, by decide⟩

/-- Every load, with the highest aligned base and, for the unaligned ones, a base of 0x1001 too. -/
theorem test_LoadsComplete_hypotheses :
    (∀ f ∈ loadForms, ∃ (rc : Reg) (p : Place) (s : State) (pa : Nat → Nat) (v : BitVec f.size),
      (f.aligned = true → BaseAligned s rc f.size) ∧
      s.Maps .read (s.lo rc) (p.address s rc f.size) (f.size / 8) pa ∧ s.mem.Holds pa f.order f.size v) ∧
    ∃ (p : Place) (s : State) (pa : Nat → Nat), ¬BaseAligned s 1 32 ∧
      s.Maps .read (s.lo 1) (p.address s 1 32) 4 pa ∧ s.mem.Holds pa .little 32 0x84838281#32 := by
  constructor
  · intro f hf
    refine ⟨1, .indexed 2, top [(1, 0xFFFFFFFFFFFFFFF0)] [], fun k => 2 ^ 32 - 16 + k, ?_⟩
    simp only [loadForms, List.mem_cons, List.not_mem_nil, or_false] at hf
    rcases hf with rfl | rfl | rfl | rfl | rfl | rfl | rfl | rfl | rfl | rfl | rfl | rfl | rfl | rfl | rfl | rfl | rfl |
      rfl | rfl | rfl | rfl | rfl | rfl | rfl | rfl | rfl | rfl | rfl | rfl | rfl <;>
    exact ⟨_, fun _ => by unfold BaseAligned; decide +kernel, maps_top rfl _ _ _ _ (by decide +kernel) (by decide +kernel),
      Memory.holds_assemble _ _ _ (by decide)⟩
  · refine ⟨.indexed 2, machine [(1, 0x1001)] loadBytes, fun k => 0x1001 + k, ?_, maps_identity rfl _ _ _ _ ?_, ?_⟩
    · unfold BaseAligned
      decide +kernel
    · decide +kernel
    · unfold Memory.Holds
      decide +kernel

theorem test_StoresComplete_hypotheses :
    ∀ f ∈ storeForms, ∃ (rc : Reg) (p : Place) (s : State) (pa : Nat → Nat),
      (f.aligned = true → BaseAligned s rc f.size) ∧
      s.Maps .write (s.lo rc) (p.address s rc f.size) (f.size / 8) pa := by
  intro f hf
  refine ⟨1, .indexed 2, top [(1, 0xFFFFFFFFFFFFFFF0)] [], fun k => 2 ^ 32 - 16 + k, ?_⟩
  simp only [storeForms, List.mem_cons, List.not_mem_nil, or_false] at hf
  rcases hf with rfl | rfl | rfl | rfl | rfl | rfl | rfl | rfl | rfl | rfl | rfl | rfl | rfl | rfl | rfl | rfl | rfl <;>
  exact ⟨fun _ => by unfold BaseAligned; decide +kernel, maps_top rfl _ _ _ _ (by decide +kernel) (by decide +kernel)⟩

theorem test_MisalignedBaseRaises_hypotheses :
    (∀ f ∈ loadForms, f.aligned = true → ¬BaseAligned (machine [(1, 0xFFFFFFFFFFFFFFFF)] []) 1 f.size) ∧
    (∀ f ∈ storeForms ++ multiplexForms ++ addSwapForms ++ compareSwapForms ++ multiplexSwapForms, f.aligned = true →
      ¬BaseAligned (machine [(1, 0xFFFFFFFFFFFFFFFF)] []) 1 f.size) ∧
    ¬BaseAligned (machine [(1, 0x3001)] []) 1 64 ∧ ¬BaseAligned (machine [(1, 0x3000), (2, 0x3004)] []) 2 64 := by
  unfold BaseAligned
  decide +kernel

theorem test_AccessExceptionsTaken_hypotheses :
    (∀ f ∈ loadForms, ∃ (rc : Reg) (p : Place) (s : State) (e : AccessFault), BaseAligned s rc f.size ∧
      TranslationRaises s .read (s.lo rc) (p.address s rc f.size) (f.size / 8) e) ∧
    (∀ f ∈ storeForms ++ multiplexForms ++ addSwapForms ++ compareSwapForms ++ multiplexSwapForms,
      ∃ (rc : Reg) (p : Place) (s : State) (e : AccessFault), BaseAligned s rc f.size ∧
        TranslationRaises s .write (s.lo rc) (p.address s rc f.size) (f.size / 8) e) ∧
    TranslationRaises (hole [(1, 0x2000)] 0x2007) .write ((hole [(1, 0x2000)] 0x2007).lo 1)
      ((Place.indexed 2).address (hole [(1, 0x2000)] 0x2007) 1 64) 8 .localTBMiss := by
  have size : (∀ f ∈ loadForms, 0 < f.size / 8 ∧ f.size / 8 ≤ 16 ∧ BaseAligned (unmapped []) 1 f.size ∧
      ((Place.indexed 2).address (unmapped []) 1 f.size).toNat = 0) ∧
      ∀ f ∈ storeForms ++ multiplexForms ++ addSwapForms ++ compareSwapForms ++ multiplexSwapForms,
        0 < f.size / 8 ∧ f.size / 8 ≤ 16 ∧ BaseAligned (unmapped []) 1 f.size ∧
          ((Place.indexed 2).address (unmapped []) 1 f.size).toNat = 0 := by
    unfold BaseAligned
    decide +kernel
  refine ⟨fun f hf => ?_, fun f hf => ?_, by decide +kernel, 7, by decide, fun j hj => ⟨inRam (0x2000 + j), ?_⟩, rfl⟩
  · obtain ⟨h0, h1, h2, h3⟩ := size.1 f hf
    exact ⟨1, .indexed 2, unmapped [], _, h2, raises_unmapped rfl _ _ _ _ h0 (by omega)⟩
  · obtain ⟨h0, h1, h2, h3⟩ := size.2 f hf
    exact ⟨1, .indexed 2, unmapped [], _, h2, raises_unmapped rfl _ _ _ _ h0 (by omega)⟩
  · interval_cases j <;> rfl

theorem test_AccessPastEndRefused_hypotheses :
    (∀ f ∈ loadForms, f.aligned = false → 8 < f.size →
      2 ^ 64 < ((Place.offset 0).address (machine [(1, 0xFFFFFFFFFFFFFFFF)] []) 1 f.size).toNat + f.size / 8) ∧
    (∀ f ∈ storeForms, f.aligned = false → 8 < f.size →
      2 ^ 64 < ((Place.indexed 2).address (machine [(1, 0xFFFFFFFFFFFFFFFF)] []) 1 f.size).toNat + f.size / 8) ∧
    (∃ s : State, 2 ^ 64 < (s.exceptionBase + s.thread * 128#64).toNat + 16) ∧
    BaseAligned (machine [(1, 0xFFFFFFFFFFFFFFFF)] []) 1 (2 ^ 3) ∧
    BaseAligned (machine [(1, 0xFFFFFFFFFFFFFFF0)] []) 1 (2 ^ 7) := by
  refine ⟨?_, ?_, ⟨{ machine [] [] with exceptionBase := 0xFFFFFFFFFFFFFFF1 }, ?_⟩, ?_, ?_⟩ <;>
    (try unfold BaseAligned) <;> decide +kernel

/-- The octlet the swap witnesses find at 0x3000, in each byte order. -/
def octletAt3000 (ord : ByteOrder) : Octlet :=
  match ord with
  | .little => 0x0807060504030201#64
  | .big => 0x0102030405060708#64

/-- A machine of `machine` with the swap bytes, and x[1] at the first octlet of them. -/
def swapMachine (x3 : Hexlet) : State := machine [(1, 0x3000), (3, x3)] swapBytes

/-- The hypotheses that the multiplex stores and the swaps share. -/
theorem swap_ready (x3 : Hexlet) :
    BaseAligned (swapMachine x3) 1 64 ∧
      (swapMachine x3).Maps .write ((swapMachine x3).lo 1) ((Place.offset 0).address (swapMachine x3) 1 64) 8
        (fun k => 0x3000 + k) ∧
      ∀ ord, (swapMachine x3).mem.Holds (fun k => 0x3000 + k) ord 64 (octletAt3000 ord) := by
  have lo : (swapMachine x3).lo 1 = 0x3000#64 := rfl
  refine ⟨?_, ?_, fun ord => ?_⟩
  · unfold BaseAligned
    rw [lo]
    rfl
  · have e : (Place.offset 0).address (swapMachine x3) 1 64 = 0x3000#64 := rfl
    rw [e]
    exact maps_identity rfl _ _ _ _ (by decide)
  · have e : (swapMachine x3).mem = (swapMachine 0).mem := rfl
    rw [e]
    unfold Memory.Holds
    cases ord <;> decide +kernel

/-- The multiplex stores and the multiplex swaps, with a mask of all ones but bit 0. -/
theorem test_MultiplexStores_hypotheses :
    ∀ f ∈ multiplexForms ++ multiplexSwapForms, ∃ (rd rc : Reg) (p : Place) (s : State) (pa : Nat → Nat) (a m : Octlet),
      BaseAligned s rc 64 ∧ s.Maps .write (s.lo rc) (p.address s rc 64) 8 pa ∧ s.mem.Holds pa f.order 64 a ∧
        Multiplexes (s.reg rd) a m := by
  intro f hf
  have h := swap_ready 0x8000000000000000FFFFFFFFFFFFFFFE
  refine ⟨3, 1, .offset 0, _, _, octletAt3000 f.order,
    (match f.order with | .little => 0x8000000000000001#64 | .big => 0x8000000000000000#64), h.1, h.2.1, h.2.2 f.order, ?_⟩
  unfold Multiplexes
  cases f.order <;> decide +kernel

theorem test_AddAndMultiplexSwaps_hypotheses :
    ∀ f ∈ addSwapForms, ∃ (rc : Reg) (p : Place) (s : State) (pa : Nat → Nat) (a : Octlet),
      BaseAligned s rc 64 ∧ s.Maps .write (s.lo rc) (p.address s rc 64) 8 pa ∧ s.mem.Holds pa f.order 64 a := by
  intro f hf
  have h := swap_ready 0xFFFFFFFFFFFFFFFF
  exact ⟨1, .offset 0, _, _, _, h.1, h.2.1, h.2.2 f.order⟩

/-- The expected value found, and one bit of it not found. -/
theorem test_CompareSwaps_hypotheses :
    ∀ f ∈ compareSwapForms, ∃ (s t : State) (pa : Nat → Nat) (a : Octlet),
      (BaseAligned s 1 64 ∧ s.Maps .write (s.lo 1) ((Place.offset 0).address s 1 64) 8 pa ∧
        s.mem.Holds pa f.order 64 a ∧ a = s.lo 3) ∧
      BaseAligned t 1 64 ∧ t.Maps .write (t.lo 1) ((Place.offset 0).address t 1 64) 8 pa ∧
        t.mem.Holds pa f.order 64 a ∧ a ≠ t.lo 3 := by
  intro f hf
  have h := swap_ready ((octletAt3000 f.order).setWidth 128)
  have g := swap_ready ((octletAt3000 f.order).setWidth 128 ^^^ 1)
  refine ⟨_, _, _, _, ⟨h.1, h.2.1, h.2.2 f.order, ?_⟩, g.1, g.2.1, g.2.2 f.order, ?_⟩ <;>
    cases f.order <;> decide +kernel

/-- A machine of `machine` for S.D.C.S of the octlets at 0x3000 and at 0x3008 or 0x3000. -/
def doubleMachine (x1 x2 : Hexlet) : State :=
  machine [(1, x1), (2, x2), (3, 0x11111111111111112222222222222222)] swapBytes

/-- Both as expected; the second not; both addresses the same. -/
theorem test_DoubleCompareSwaps_hypotheses :
    (∃ (s : State) (pa pb : Nat → Nat) (a b : Octlet), BaseAligned s 1 64 ∧ BaseAligned s 2 64 ∧
      s.Maps .write (s.lo 1) (s.lo 1) 8 pa ∧ s.Maps .write (s.lo 2) (s.lo 2) 8 pb ∧ s.mem.Holds pa .little 64 a ∧
      s.mem.Holds pb .little 64 b ∧ a = s.hi 1 ∧ b = s.hi 2) ∧
    (∃ (s : State) (pa pb : Nat → Nat) (a b : Octlet), BaseAligned s 1 64 ∧ BaseAligned s 2 64 ∧
      s.Maps .write (s.lo 1) (s.lo 1) 8 pa ∧ s.Maps .write (s.lo 2) (s.lo 2) 8 pb ∧ s.mem.Holds pa .little 64 a ∧
      s.mem.Holds pb .little 64 b ∧ ¬(a = s.hi 1 ∧ b = s.hi 2)) ∧
    ∃ (s : State) (pa : Nat → Nat) (a : Octlet), BaseAligned s 1 64 ∧ s.lo 1 = s.lo 2 ∧
      s.Maps .write (s.lo 1) (s.lo 1) 8 pa ∧ s.mem.Holds pa .big 64 a ∧ a = s.hi 1 ∧ a = s.hi 2 := by
  refine ⟨⟨doubleMachine 0x08070605040302010000000000003000 0xF7F6F5F4F3F2F1F00000000000003008, fun k => 0x3000 + k,
      fun k => 0x3008 + k, 0x0807060504030201, 0xF7F6F5F4F3F2F1F0, ?_, ?_, maps_identity rfl _ _ _ _ ?_,
      maps_identity rfl _ _ _ _ ?_, ?_, ?_, ?_, ?_⟩,
    ⟨doubleMachine 0x08070605040302010000000000003000 0xF7F6F5F4F3F2F1F10000000000003008, fun k => 0x3000 + k,
      fun k => 0x3008 + k, 0x0807060504030201, 0xF7F6F5F4F3F2F1F0, ?_, ?_, maps_identity rfl _ _ _ _ ?_,
      maps_identity rfl _ _ _ _ ?_, ?_, ?_, ?_⟩,
    ⟨doubleMachine 0x01020304050607080000000000003000 0x01020304050607080000000000003000, fun k => 0x3000 + k,
      0x0102030405060708, ?_, ?_, maps_identity rfl _ _ _ _ ?_, ?_, ?_, ?_⟩⟩ <;>
    (first | unfold BaseAligned | unfold Memory.Holds | skip) <;> decide +kernel

/-- The first octlet without an address; the second without one where the first has one. -/
theorem test_DoubleCompareSwapRaises_hypotheses :
    (∃ s : State, BaseAligned s 1 64 ∧ BaseAligned s 2 64 ∧
      TranslationRaises s .write (s.lo 1) (s.lo 1) 8 .disallowedByVirtualAddress) ∧
    ∃ s : State, BaseAligned s 1 64 ∧ BaseAligned s 2 64 ∧ (∃ pa, s.Maps .write (s.lo 1) (s.lo 1) 8 pa) ∧
      TranslationRaises s .write (s.lo 2) (s.lo 2) 8 .localTBMiss := by
  refine ⟨⟨unmapped [], ?_, ?_, raises_unmapped rfl _ _ _ _ (by decide) (by decide +kernel)⟩,
    hole [(1, 0x3000), (2, 0x3008)] 0x3008, ?_, ?_, ⟨fun k => 0x3000 + k, by decide +kernel, fun j hj => ?_⟩,
    by decide +kernel, 0, by decide, fun j hj => absurd hj (Nat.not_lt_zero j), rfl⟩
  · unfold BaseAligned; decide +kernel
  · unfold BaseAligned; decide +kernel
  · unfold BaseAligned; decide +kernel
  · unfold BaseAligned; decide +kernel
  · interval_cases j <;> rfl

/-- Every store with a load of its size and order: the last 16 bytes; an odd base for the unaligned forms. -/
theorem test_LoadAfterStore_hypotheses :
    (∀ f ∈ storeForms, (loadForms.any fun g => g.size == f.size && g.order == f.order) = true ∧
      ∃ (p : Place) (s : State) (pa : Nat → Nat), BaseAligned s 1 f.size ∧
        s.Maps .write (s.lo 1) (p.address s 1 f.size) (f.size / 8) pa ∧
        s.Maps .read (s.lo 1) (p.address s 1 f.size) (f.size / 8) pa ∧
        ∀ j < f.size / 8, ∀ k < f.size / 8, pa j = pa k → j = k) ∧
    ¬BaseAligned (machine [(1, 0x1001)] []) 1 32 := by
  have h : ∀ f ∈ storeForms, (loadForms.any fun g => g.size == f.size && g.order == f.order) = true ∧
      BaseAligned (top [(1, 0xFFFFFFFFFFFFFFF0)] []) 1 f.size ∧ f.size / 8 ≤ 16 ∧
      (Place.offset 0).address (top [(1, 0xFFFFFFFFFFFFFFF0)] []) 1 f.size = 0xFFFFFFFFFFFFFFF0#64 := by
    unfold BaseAligned
    decide +kernel
  refine ⟨fun f hf => ?_, by unfold BaseAligned; decide +kernel⟩
  obtain ⟨hg, hb, hn, ha⟩ := h f hf
  have hm := fun kind => maps_top (s := top [(1, 0xFFFFFFFFFFFFFFF0)] []) rfl kind
    ((top [(1, 0xFFFFFFFFFFFFFFF0)] []).lo 1) 0xFFFFFFFFFFFFFFF0#64 (f.size / 8) (by decide)
    (Nat.add_le_add_left hn _)
  exact ⟨hg, .offset 0, _, _, hb, ha ▸ hm .write, ha ▸ hm .read, fun j _ k _ e => Nat.add_left_cancel e⟩

/-- The counts of A.SHL.I.ADD, A.SHL.I.SUB, G.SHL.I.ADD and G.SHL.I.SUB, for `AddressArithmeticWraps` and
`GroupShiftAdd`. -/
theorem test_shift_counts_hypotheses : ∃ a b : Nat, (1 ≤ a ∧ a ≤ 4 ∧ a = 1) ∧ 1 ≤ b ∧ b ≤ 4 ∧ b = 4 :=
  ⟨1, 4, by decide⟩

/-- Sums and differences at both ends of the range, and one past them. -/
theorem test_AddressSignedChecked_hypotheses :
    let a := machine [(1, 0x7FFFFFFFFFFFFFFE), (2, 1)] []
    let b := machine [(1, 0x8000000000000001), (2, 0xFFFFFFFFFFFFFFFF)] []
    let c := machine [(1, 0x7FFFFFFFFFFFFFFF), (2, 1)] []
    let d := machine [(1, 0x8000000000000000), (2, 0xFFFFFFFFFFFFFFFF)] []
    (a.lo 1).toInt + (a.lo 2).toInt = 2 ^ 63 - 1 ∧ (b.lo 1).toInt + (b.lo 2).toInt = -2 ^ 63 ∧
      (c.lo 1).toInt + (c.lo 2).toInt = 2 ^ 63 ∧ (d.lo 1).toInt + (d.lo 2).toInt = -2 ^ 63 - 1 ∧
      (0 : BitVec 12).toInt - (d.lo 1).toInt = 2 ^ 63 ∧ (0 : BitVec 12).toInt - (c.lo 1).toInt = -2 ^ 63 + 1 := by
  decide +kernel

theorem test_AddressUnsignedChecked_hypotheses :
    let s := machine [(1, 0xFFFFFFFFFFFFFFFE), (2, 1)] []
    let t := machine [(1, 0xFFFFFFFFFFFFFFFF), (2, 1)] []
    ((0 : Int) ≤ (s.lo 1).toNat + (s.lo 2).toNat ∧ ((s.lo 1).toNat + (s.lo 2).toNat : Int) < 2 ^ 64) ∧
      ¬((0 : Int) ≤ (t.lo 1).toNat + (t.lo 2).toNat ∧ ((t.lo 1).toNat + (t.lo 2).toNat : Int) < 2 ^ 64) ∧
      ((0 : Int) ≤ (s.lo 1).toNat - (s.lo 2).toNat ∧ ((s.lo 1).toNat - (s.lo 2).toNat : Int) < 2 ^ 64) ∧
      ¬((0 : Int) ≤ (s.lo 2).toNat - (s.lo 1).toNat ∧ ((s.lo 2).toNat - (s.lo 1).toNat : Int) < 2 ^ 64) := by
  decide +kernel

/-- The 65-bit sums and differences of each reading, with bit 64 clear and with bit 64 set. -/
theorem test_AddressUnsignedImmediateChecked_hypotheses :
    (∀ u ∈ [UOReading.literal, .zextC, .zextBoth], ∃ (c : Octlet) (imm : BitVec 12),
      ((if u = .literal then c.toInt else (c.toNat : Int)) +
        (if u = .zextBoth then ((imm.signExtend 64).toNat : Int) else imm.toInt)) % 2 ^ 65 < 2 ^ 64) ∧
    (∀ u ∈ [UOReading.literal, .zextC, .zextBoth], ∃ (c : Octlet) (imm : BitVec 12),
      2 ^ 64 ≤ ((if u = .literal then c.toInt else (c.toNat : Int)) +
        (if u = .zextBoth then ((imm.signExtend 64).toNat : Int) else imm.toInt)) % 2 ^ 65) ∧
    (∀ u ∈ [UOReading.literal, .zextC, .zextBoth], ∃ (c : Octlet) (imm : BitVec 12),
      ((if u = .zextBoth then ((imm.signExtend 64).toNat : Int) else imm.toInt) -
        (if u = .literal then c.toInt else (c.toNat : Int))) % 2 ^ 65 < 2 ^ 64) ∧
    ∀ u ∈ [UOReading.literal, .zextC, .zextBoth], ∃ (c : Octlet) (imm : BitVec 12),
      2 ^ 64 ≤ ((if u = .zextBoth then ((imm.signExtend 64).toNat : Int) else imm.toInt) -
        (if u = .literal then c.toInt else (c.toNat : Int))) % 2 ^ 65 := by
  refine ⟨fun u _ => ⟨5, 0x7FF, ?_⟩, fun u _ => ?_, fun u _ => ⟨0x7FF, 0x7FF, ?_⟩, fun u _ => ⟨0x800, 0x7FF, ?_⟩⟩
  · cases u <;> decide +kernel
  · cases u
    · exact ⟨0xFFFFFFFFFFFFF800, 0x7FF, by decide +kernel⟩
    · exact ⟨0xFFFFFFFFFFFFFFFF, 1, by decide +kernel⟩
    · exact ⟨1, 0xFFF, by decide +kernel⟩
  · cases u <;> decide +kernel
  · cases u <;> decide +kernel

theorem compares_of {r : Relation} {x y : Hexlet} :
    Compares (machine [(1, x), (2, y)] []) r 1 2 ↔ Condition r x y := by
  have hx : (machine [(1, x), (2, y)] []).reg 1 = x := rfl
  have hy : (machine [(1, x), (2, y)] []).reg 2 = y := rfl
  have hw : compareWidth (machine [(1, x), (2, y)] []) = 128 := rfl
  unfold Compares
  rw [hx, hy, hw, BitVec.setWidth_eq, BitVec.setWidth_eq]
  exact ⟨fun h => h.2 (by decide), fun h => ⟨fun e => absurd e (by decide), fun _ => h⟩⟩

theorem compares_same_of {r : Relation} {y : Hexlet} : Compares (machine [(1, y)] []) r 1 1 ↔ ConditionSame r y := by
  have hy : (machine [(1, y)] []).reg 1 = y := rfl
  have hw : compareWidth (machine [(1, y)] []) = 128 := rfl
  unfold Compares
  rw [hy, hw, BitVec.setWidth_eq]
  exact ⟨fun h => h.1 rfl, fun h => ⟨fun _ => h, fun e => absurd rfl e⟩⟩

/-- Every comparison of two registers holds somewhere and fails somewhere, for `AddressSetRegisters`, `AddressCompare` and
`BranchesConditional`. -/
theorem test_Compares_hypotheses :
    ∀ r : Relation, (∃ s : State, Compares s r 1 2) ∧ ∃ s : State, ¬Compares s r 1 2 := by
  have key : ∀ (r : Relation) (x y z w : Hexlet), Condition r x y → ¬Condition r z w →
      (∃ s : State, Compares s r 1 2) ∧ ∃ s : State, ¬Compares s r 1 2 :=
    fun r x y z w h g => ⟨⟨_, compares_of.2 h⟩, _, fun c => g (compares_of.1 c)⟩
  intro r
  cases r
  · exact key _ 1 2 3 2 (by unfold Condition; decide +kernel) (by unfold Condition; decide +kernel)
  · exact key _ 3 2 1 2 (by unfold Condition; decide +kernel) (by unfold Condition; decide +kernel)
  · exact key _ 5 5 5 0x10000000000000005 (by unfold Condition; decide +kernel) (by unfold Condition; decide +kernel)
  · exact key _ 5 0x10000000000000005 5 5 (by unfold Condition; decide +kernel) (by unfold Condition; decide +kernel)
  · exact key _ 5 5 (-1) 0 (by unfold Condition; decide +kernel) (by unfold Condition; decide +kernel)
  · exact key _ (-1) 0 5 5 (by unfold Condition; decide +kernel) (by unfold Condition; decide +kernel)
  · exact key _ (-1) 0 0 (-1) (by unfold Condition; decide +kernel) (by unfold Condition; decide +kernel)
  · exact key _ 0 (-1) 5 5 (by unfold Condition; decide +kernel) (by unfold Condition; decide +kernel)

/-- One register named twice: seven of the comparisons hold of some value, seven fail of some value. -/
theorem test_Compares_same_hypotheses :
    (∀ r : Relation, r ≠ .ne → ∃ s : State, Compares s r 1 1) ∧ ∀ r : Relation, r ≠ .e → ∃ s : State, ¬Compares s r 1 1 := by
  constructor
  · intro r hr
    have key : ∀ y : Hexlet, ConditionSame r y → ∃ s : State, Compares s r 1 1 := fun y h => ⟨_, compares_same_of.2 h⟩
    cases r
    · exact key 0 (by unfold ConditionSame; decide +kernel)
    · exact key 1 (by unfold ConditionSame; decide +kernel)
    · exact key 0 trivial
    · exact absurd rfl hr
    · exact key 0 (by unfold ConditionSame; decide +kernel)
    · exact key (-1) (by unfold ConditionSame; decide +kernel)
    · exact key 0 (by unfold ConditionSame; decide +kernel)
    · exact key 1 (by unfold ConditionSame; decide +kernel)
  · intro r hr
    have key : ∀ y : Hexlet, ¬ConditionSame r y → ∃ s : State, ¬Compares s r 1 1 :=
      fun y h => ⟨_, fun c => h (compares_same_of.1 c)⟩
    cases r
    · exact key 1 (by unfold ConditionSame; decide +kernel)
    · exact key 0 (by unfold ConditionSame; decide +kernel)
    · exact absurd rfl hr
    · exact key 0 (fun h => h)
    · exact key (-1) (by unfold ConditionSame; decide +kernel)
    · exact key 0 (by unfold ConditionSame; decide +kernel)
    · exact key 1 (by unfold ConditionSame; decide +kernel)
    · exact key 0 (by unfold ConditionSame; decide +kernel)

/-- Every comparison of an immediate with the low half of a register holds somewhere and fails somewhere. -/
theorem test_AddressSetImmediate_hypotheses :
    ∀ r : Relation, (∃ (imm : BitVec 12) (c : Octlet), Condition r (imm.signExtend 64) c) ∧
      ∃ (imm : BitVec 12) (c : Octlet), ¬Condition r (imm.signExtend 64) c := by
  intro r
  cases r <;> unfold Condition
  · exact ⟨⟨1, 2, by decide +kernel⟩, 0xFFF, 0x8000000000000000, by decide +kernel⟩
  · exact ⟨⟨0xFFF, 0x8000000000000000, by decide +kernel⟩, 1, 2, by decide +kernel⟩
  · exact ⟨⟨0xFFF, 0xFFFFFFFFFFFFFFFF, by decide +kernel⟩, 0xFFF, 0xFFF, by decide +kernel⟩
  · exact ⟨⟨0xFFF, 0xFFF, by decide +kernel⟩, 5, 5, by decide +kernel⟩
  · exact ⟨⟨0, 0xFFFFFFFFFFFFFFFF, by decide +kernel⟩, 0xFFF, 0, by decide +kernel⟩
  · exact ⟨⟨0xFFF, 0, by decide +kernel⟩, 0, 0, by decide +kernel⟩
  · exact ⟨⟨0xFFF, 0, by decide +kernel⟩, 0, 1, by decide +kernel⟩
  · exact ⟨⟨0, 1, by decide +kernel⟩, 0xFFF, 0xFFFFFFFFFFFFFFFF, by decide +kernel⟩

/-- Shifts whose products fit, at the end of the range and one past it. -/
theorem test_AddressShifts_hypotheses :
    let s := machine [(1, 1), (2, 0xFFFFFFFFFFFFFFFF)] []
    (-2 ^ 63 ≤ (s.lo 2).toInt * 2 ^ (63#6).toNat ∧ (s.lo 2).toInt * 2 ^ (63#6).toNat < 2 ^ 63) ∧
      ¬(-2 ^ 63 ≤ (s.lo 1).toInt * 2 ^ (63#6).toNat ∧ (s.lo 1).toInt * 2 ^ (63#6).toNat < 2 ^ 63) ∧
      ((0 : Int) ≤ (s.lo 1).toNat * 2 ^ (63#6).toNat ∧ ((s.lo 1).toNat * 2 ^ (63#6).toNat : Int) < 2 ^ 64) ∧
      ¬((0 : Int) ≤ (s.lo 2).toNat * 2 ^ (1#6).toNat ∧ ((s.lo 2).toNat * 2 ^ (1#6).toNat : Int) < 2 ^ 64) := by
  decide +kernel

/-- Values a field must not have, for the register branches of every statement that tests their fields. -/
theorem test_unused_fields_hypotheses : ∃ r q : Reg, r ≠ 0 ∧ r ≠ 1 ∧ q ≠ 1 ∧ q = 0 := ⟨63, 0, by decide⟩

theorem test_BranchesThroughRegister_hypotheses :
    ((machine [(5, 0xFFFFFFFFFFFFFFFC)] []).lo 5).toNat % 4 = 0 ∧ ((machine [(5, 0x2003)] []).lo 5).toNat % 4 ≠ 0 ∧
      ((machine [(5, 0x2001)] []).lo 5).toNat % 4 ≠ 0 := by decide +kernel

/-- Numbers, an infinity and two NaNs; each condition holds of two numbers and fails of two. -/
theorem test_BranchesFloat_hypotheses :
    (¬FpNaN 8 23 0x3F800000 ∧ ¬FpNaN 8 23 0xBF800000 ∧ FpNaN 8 23 0x7FC00000 ∧ FpNaN 8 23 0x7F800001 ∧
      ¬FpNaN 8 23 0x7F800000) ∧
    ∀ r : FpRelation, (∃ x y : Hexlet, FpCondition r (fpValue 8 23 x) (fpValue 8 23 y)) ∧
      ∃ x y : Hexlet, ¬FpCondition r (fpValue 8 23 x) (fpValue 8 23 y) := by
  constructor
  · unfold FpNaN
    decide +kernel
  · intro r
    cases r <;> unfold FpCondition
    · exact ⟨⟨0x80000000, 0, by decide +kernel⟩, 0x3F800000, 0xBF800000, by decide +kernel⟩
    · exact ⟨⟨0x3F800000, 0x3F800000, by decide +kernel⟩, 0xBF800000, 0x3F800000, by decide +kernel⟩
    · exact ⟨⟨0xFF800000, 0xFF7FFFFF, by decide +kernel⟩, 0x80000000, 0, by decide +kernel⟩
    · exact ⟨⟨0x3F800000, 0xBF800000, by decide +kernel⟩, 0x3F800000, 0x3F800000, by decide +kernel⟩

/-- A point inside the volume, and one beyond the plane z = 1. -/
def inside : Hexlet := 0x3F8000003F400000BF0000003E800000
def beyond : Hexlet := 0x3F800000400000000000000000000000

/-- Two points inside the volume; two beyond one plane; neither; a NaN among the elements. -/
theorem test_BranchesVisibility_hypotheses :
    (¬SomeNaN inside ∧ ¬SomeNaN beyond ∧ SomeNaN 0x7FC00000) ∧
      Inside (machine [] []) inside ∧ ¬Inside (machine [] []) beyond ∧ Outside (machine [] []) beyond beyond ∧
      ¬Outside (machine [] []) inside inside ∧ ¬Outside (machine [] []) inside beyond := by
  refine ⟨⟨?_, ?_, ?_⟩, ?_, ?_, ?_, ?_, ?_⟩ <;>
    (first | unfold SomeNaN | unfold Inside | unfold Outside) <;> (try unfold BelowF1) <;> (try unfold AboveF1) <;>
    unfold FpNaN <;> decide +kernel

/-- The return vector's state: its 16 bytes mapped and held; and one of its bytes without an address. -/
theorem test_BranchBack_hypotheses :
    (∃ (s : State) (pa : Nat → Nat), s.exceptionState ≠ 0 ∧
      s.Maps .read s.exceptionBase (s.exceptionBase + s.thread * 128#64) 16 pa ∧
      s.mem.Holds pa .little 128 0xAFAEADACABAAA9A8A7A6A5A4A3A2A1A0#128) ∧
    ∃ s : State, TranslationRaises s .read s.exceptionBase (s.exceptionBase + s.thread * 128#64) 16 .localTBMiss := by
  refine ⟨⟨backMachine, fun k => 0x10080 + k, by decide +kernel, maps_identity rfl _ _ _ _ (by decide +kernel), ?_⟩,
    { hole [] 0x100F with exceptionBase := 0x1000#64 }, by decide +kernel, 15, by decide, fun j hj => ⟨inRam (0x1000 + j), ?_⟩, rfl⟩
  · unfold Memory.Holds
    decide +kernel
  · interval_cases j <;> rfl

/-- The gateway entered through memory (also with `pc` at the last word), and a level that is asked for and held. -/
theorem test_GatewayEnters_hypotheses :
    (let s := gateMachine 0x20003
     (s.lo 1).toNat % 8 = 0 ∧ (0x4005#64).toNat = (s.pc.toNat / 4 + 1) % 2 ^ 62 * 4 + s.privilegeLevel.toNat ∧
      (0x20000#64).toNat = (s.lo 5).toNat / 4 * 4 ∧ s.privilegeLevel.toNat < (s.lo 5).toNat % 4 ∧
      (3#2).toNat = (s.lo 5).toNat % 4 ∧ s.Maps .gateway (s.lo 1) (s.lo 1) 8 (fun k => 0x8000 + k) ∧
      s.mem.Holds (fun k => 0x8000 + k) .little 64 (s.lo 5)) ∧
    (let s := { gateMachine 0x20003 with pc := 0xFFFFFFFFFFFFFFFC#64 }
     (1#64).toNat = (s.pc.toNat / 4 + 1) % 2 ^ 62 * 4 + s.privilegeLevel.toNat) ∧
    (gateMachine 0x20001).lo 5 = 0x20001#64 ∧ (0x20001#64).toNat % 4 = (gateMachine 0x20001).privilegeLevel.toNat := by
  refine ⟨⟨by decide +kernel, by decide +kernel, by decide +kernel, by decide +kernel, by decide +kernel,
    maps_identity rfl _ _ _ _ (by decide +kernel), ?_⟩, by decide +kernel, by decide +kernel, by decide +kernel⟩
  unfold Memory.Holds
  decide +kernel

/-- A misaligned `x[1]`; a gateway octlet without an address; an octlet that differs in the level. -/
theorem test_GatewayRaises_hypotheses :
    ((machine [(1, 0x8004)] []).lo 1).toNat % 8 ≠ 0 ∧
    (∃ s : State, (s.lo 1).toNat % 8 = 0 ∧ s.privilegeLevel.toNat < (s.lo 5).toNat % 4 ∧
      TranslationRaises s .gateway (s.lo 1) (s.lo 1) 8 .localTBMiss) ∧
    let s := gateMachine 0x20002
    (s.lo 1).toNat % 8 = 0 ∧ s.privilegeLevel.toNat < (s.lo 5).toNat % 4 ∧
      s.Maps .gateway (s.lo 1) (s.lo 1) 8 (fun k => 0x8000 + k) ∧
      s.mem.Holds (fun k => 0x8000 + k) .little 64 0x20003#64 ∧ 0x20003#64 ≠ s.lo 5 := by
  refine ⟨by decide +kernel, ⟨{ hole [(1, 0x8000), (5, 0x20003)] 0x8007 with privilegeLevel := 2 }, by decide +kernel,
    by decide +kernel, by decide +kernel, 7, by decide, fun j hj => ⟨inRam (0x8000 + j), ?_⟩, rfl⟩, by decide +kernel,
    by decide +kernel, maps_identity rfl _ _ _ _ (by decide +kernel), ?_, by decide +kernel⟩
  · interval_cases j <;> rfl
  · unfold Memory.Holds
    decide +kernel

/-- Both values of the parameter `FPCompare`, under which each condition holds or fails. -/
theorem test_FPCompare_hypotheses :
    (machine [] []).params.fpCompare = .ieee754 ∧
      { machine [] [] with params := { (machine [] []).params with fpCompare := .abstract } }.params.fpCompare = .abstract :=
  ⟨rfl, rfl⟩

theorem test_HaltAndHints_hypotheses :
    { machine [] [] with halted := true }.halted = true ∧ ((machine [(5, 0x2000)] []).lo 5).toNat % 4 = 0 := by
  decide +kernel

theorem test_GroupCopyImmediate_hypotheses :
    (∃ f ∈ copyForms, f.1 = 16) ∧ (∃ f ∈ copyForms, ¬(f.1 = 16 ∧ (1 : BitVec 1) = 1)) ∧ ¬((0 : BitVec 1) = 1) := by
  refine ⟨⟨_, .head _, rfl⟩, ⟨_, .tail _ (.head _), by decide⟩, by decide⟩

/-- Every comparison of an immediate with a lane holds somewhere and fails somewhere. -/
theorem test_GroupSetImmediate_hypotheses :
    ∀ r : Relation, (∃ (imm : BitVec 10) (c : BitVec 16), Condition r (imm.signExtend 16) c) ∧
      ∃ (imm : BitVec 10) (c : BitVec 16), ¬Condition r (imm.signExtend 16) c := by
  intro r
  cases r <;> unfold Condition
  · exact ⟨⟨1, 2, by decide +kernel⟩, 0x3FF, 0x8000, by decide +kernel⟩
  · exact ⟨⟨0x3FF, 0x8000, by decide +kernel⟩, 1, 2, by decide +kernel⟩
  · exact ⟨⟨0x3FF, 0xFFFF, by decide +kernel⟩, 0x3FF, 0x3FF, by decide +kernel⟩
  · exact ⟨⟨0x3FF, 0x3FF, by decide +kernel⟩, 5, 5, by decide +kernel⟩
  · exact ⟨⟨0, 0xFFFF, by decide +kernel⟩, 0x3FF, 0, by decide +kernel⟩
  · exact ⟨⟨0x3FF, 0, by decide +kernel⟩, 0, 0, by decide +kernel⟩
  · exact ⟨⟨0x3FF, 0, by decide +kernel⟩, 0, 1, by decide +kernel⟩
  · exact ⟨⟨0, 1, by decide +kernel⟩, 0x3FF, 0xFFFF, by decide +kernel⟩

/-- Lanes of 0x7FFE and 0x7FFF: with 1 added the first fits at the end of the range, the second does not; unsigned, the
same with 0xFFFE and 0xFFFF. -/
theorem test_GroupChecked_hypotheses :
    (∀ k < 128 / 16, -2 ^ (16 - 1) ≤ (laneOf (machine [(1, 0x7FFE)] []) 1 16 k).toInt + (1#10).toInt ∧
      (laneOf (machine [(1, 0x7FFE)] []) 1 16 k).toInt + (1#10).toInt < 2 ^ (16 - 1)) ∧
    (∃ k < 128 / 16, ¬(-2 ^ (16 - 1) ≤ (laneOf (machine [(1, 0x7FFF)] []) 1 16 k).toInt + (1#10).toInt ∧
      (laneOf (machine [(1, 0x7FFF)] []) 1 16 k).toInt + (1#10).toInt < 2 ^ (16 - 1))) ∧
    (∀ k < 128 / 16, 0 ≤ ((laneOf (machine [(1, 0xFFFE)] []) 1 16 k).toNat : Int) + ((1#10).signExtend 16).toNat ∧
      ((laneOf (machine [(1, 0xFFFE)] []) 1 16 k).toNat : Int) + ((1#10).signExtend 16).toNat < 2 ^ 16) ∧
    ∃ k < 128 / 16, ¬(0 ≤ ((laneOf (machine [(1, 0xFFFF)] []) 1 16 k).toNat : Int) + ((1#10).signExtend 16).toNat ∧
      ((laneOf (machine [(1, 0xFFFF)] []) 1 16 k).toNat : Int) + ((1#10).signExtend 16).toNat < 2 ^ 16) := by
  refine ⟨by decide +kernel, ⟨0, by decide +kernel⟩, by decide +kernel, 0, by decide +kernel⟩

theorem next_of_answers {r : Result} {f : State → Bool} (h : answers r f = true) : ∃ t, r = .next t ∧ f t = true := by
  cases r with
  | next t => exact ⟨t, rfl, h⟩
  | fault _ => cases h
  | refused _ => cases h

theorem fault_of_faults {r : Result} {e : Exn} {pc : Octlet} (h : faults r e pc = true) : r = .fault (.raised e pc) := by
  cases r with
  | next t => cases h
  | fault f => exact congrArg _ (eq_of_beq h)
  | refused _ => cases h

theorem test_StepKeepsInvariant_hypotheses : ∃ s t : State, s.Inv ∧ step s = .next t := by
  obtain ⟨t, h, _⟩ := next_of_answers test_step
  refine ⟨_, t, ?_, h⟩
  unfold State.Inv
  decide +kernel

theorem test_CanonicalMemoriesEqual_hypotheses :
    ∃ m n : Memory, m.wf = true ∧ n.wf = true ∧ m ≠ Memory.empty ∧ ∀ a, m.read a = n.read a :=
  ⟨(Memory.empty.write 5 1).write 3 2, (Memory.empty.write 3 2).write 5 1, by decide, by decide, by decide, fun _ => rfl⟩

/-- Under the default of `TrapEntry` an instruction that answers a state completes. -/
theorem completes_of {i : Instr} {s t : State} (hf : s.params.trapEntry = .final) (h : exec i s = .next t) :
    Completes i s t := by
  refine ⟨h, fun e r => ?_⟩
  have hr := r.1 hf
  rw [h] at hr
  cases hr

theorem test_OnlyStoresWriteMemory_hypotheses :
    ∃ (i : Instr) (s t : State), isStore i = false ∧ Completes i s t ∧ (∀ rd rc rb, i ≠ .bBarrier rd rc rb) ∧
      s.stale ≠ [] :=
  ⟨.gAddI16 3 1 1, lastWord, _, rfl, completes_of rfl rfl, (fun _ _ _ h => by cases h), by decide +kernel⟩

theorem test_RegisterFrame_hypotheses :
    ∃ (i : Instr) (s t : State) (r : Reg), Completes i s t ∧ destination i ≠ some r ∧ destination i = some 63 :=
  ⟨.aAdd 63 1 2, machine [(1, 7)] [], _, 1, completes_of rfl rfl, by decide, rfl⟩

/-- B.GATE raises the level, B.DOWN and B.BACK lower it. -/
theorem test_PrivilegeTransitions_hypotheses :
    (∃ (i : Instr) (s t : State), Completes i s t ∧ s.privilegeLevel < t.privilegeLevel) ∧
    (∃ (i : Instr) (s t : State), i = .bDown 5 0 0 ∧ Completes i s t ∧ t.privilegeLevel < s.privilegeLevel) ∧
    ∃ (i : Instr) (s t : State), i = .bBack 0 0 0 ∧ Completes i s t ∧ t.privilegeLevel < s.privilegeLevel := by
  have gate : answers (exec (.bGate 0 1 5) (gateMachine 0x20003)) (fun t => decide (1 < t.privilegeLevel)) = true := by
    decide +kernel
  have down : answers (exec (.bDown 5 0 0) (machine [(5, 0x4001)] [])) (fun t => decide (t.privilegeLevel < 3)) = true := by
    decide +kernel
  have back : answers (exec (.bBack 0 0 0) backMachine) (fun t => decide (t.privilegeLevel < 3)) = true := by decide +kernel
  obtain ⟨t, h, ht⟩ := next_of_answers gate
  obtain ⟨u, g, hu⟩ := next_of_answers down
  obtain ⟨v, k, hv⟩ := next_of_answers back
  exact ⟨⟨_, _, t, completes_of rfl h, of_decide_eq_true ht⟩,
    ⟨_, _, u, rfl, completes_of rfl g, of_decide_eq_true hu⟩, _, _, v, rfl, completes_of rfl k, of_decide_eq_true hv⟩

/-- A step; B.BACK with `ExceptionState` 5; B.HALT. -/
theorem test_SystemStateFrame_hypotheses :
    (∃ s t : State, step s = .next t) ∧
    (∃ (i : Instr) (s t : State), Completes i s t ∧ t.exceptionState ≠ s.exceptionState) ∧
    ∃ (i : Instr) (s t : State), Completes i s t ∧ t.halted ≠ s.halted := by
  obtain ⟨t, h, _⟩ := next_of_answers test_step
  have back : answers (exec (.bBack 0 0 0) backMachine) (fun t => decide (t.exceptionState ≠ 5)) = true := by decide +kernel
  obtain ⟨u, g, hu⟩ := next_of_answers back
  exact ⟨⟨_, t, h⟩, ⟨_, _, u, completes_of rfl g, of_decide_eq_true hu⟩, .bHalt 0 0 0, machine [] [], _,
    completes_of rfl rfl, by decide⟩

theorem test_NextInstruction_hypotheses :
    (∃ (i : Instr) (s t : State), assignsPc i = false ∧ Completes i s t ∧ ∃ rd rc rb, i = .bHalt rd rc rb) ∧
    ∃ (i : Instr) (s t : State), assignsPc i = false ∧ Completes i s t ∧ ∀ rd rc rb, i ≠ .bHalt rd rc rb :=
  ⟨⟨.bHalt 0 0 0, machine [] [], _, rfl, completes_of rfl rfl, 0, 0, 0, rfl⟩, .bHintI 1 2 3, lastWord, _, rfl,
    completes_of rfl rfl, fun _ _ _ h => by cases h⟩

/-- A machine of `machine` in which a run goes on after an exception. -/
def trapping (regs : List (Reg × Hexlet)) : State := withTrapEntry (machine regs []) .continues

/-- An instruction that completes, one that raises and one that is refused, where a run goes on after an exception. -/
theorem test_TrapEntryContinues_hypotheses :
    ((trapping []).params.trapEntry = .continues ∧ (trapping []).mem.wf = true ∧ (trapping []).mem.inSpace = true) ∧
    (∃ t, exec (.bHintI 1 2 3) (withTrapEntry (trapping []) .final) = .next t) ∧
    exec (.aRes 0) (withTrapEntry (trapping []) .final) = .fault (.raised .reservedInstruction 0x1000) ∧
    exec (.l16L 1 2 3) (withTrapEntry (trapping [(2, 0xFFFFFFFFFFFFFFFF)]) .final) = .refused .accessPastEnd :=
  ⟨⟨rfl, rfl, rfl⟩, ⟨_, rfl⟩, rfl, rfl⟩

/-- A launch at the last word of the address space with an image of two bytes. -/
theorem test_LaunchState_hypotheses :
    ∃ l : Launch, l.resetPC.toNat % 4 = 0 ∧ l.image.wf = true ∧ l.image.inSpace = true ∧ l.resetPC ≠ 0 ∧
      l.image ≠ Memory.empty :=
  ⟨{ Config.defaultLaunch with
      resetPC := 0xFFFFFFFFFFFFFFFC#64, image := (Memory.empty.write 5 1).write (2 ^ 32 - 1) 2 }, by decide +kernel,
    by decide +kernel, by decide +kernel, by decide +kernel, by decide +kernel⟩

/-- An access whose last byte, at `a`, is the first I/O address. -/
theorem reaches_io {a n : Nat} {regs : List (Reg × Hexlet)} {s : State} (hs : s.params = (ioFrom a regs).params)
    (kind : AccessKind) (ba va : Octlet) (h0 : 0 < n) (h1 : n ≤ 2 ^ 32) (hva : va.toNat + n = a + 1) (ha : a < 2 ^ 32) :
    ReachesIO s kind ba va n := by
  have hl : ∀ p : Level, p ∈ ([0, 1, 2, 3] : List Level) := by decide
  have hk : ([.read, .write, .gateway, .execute] : List AccessKind).contains kind = true := by cases kind <;> rfl
  have hp : ([0, 1, 2, 3] : List Level).contains s.privilegeLevel = true := by
    simpa using hl s.privilegeLevel
  have hb := ba.isLt
  have hx : s.params.translation = window a .io :: Config.identityTranslation := by rw [hs]; rfl
  have e : ∀ k < n, (va + BitVec.ofNat 64 k).toNat = va.toNat + k := by
    intro k hk
    rw [BitVec.toNat_add, BitVec.toNat_ofNat]
    omega
  have hc : ∀ k < n, s.translate kind ba (va + BitVec.ofNat 64 k) =
      if a ≤ va.toNat + k then .ok { transaction := .io, address := (BitVec.ofNat 32 (va.toNat + k - a)).toNat }
      else .ok { transaction := .memory, address := (BitVec.ofNat 32 (va.toNat + k)).toNat } := by
    intro k hk'
    have h2 : va.toNat + k < a + 2 ^ 32 := by omega
    have h3 : va.toNat + k < physicalSpace := by unfold physicalSpace; omega
    unfold State.translate
    rw [hx]
    simp only [translateBy, XlatRule.covers, window, Config.identityTranslation, hk, hp, e k hk', hb, h2, h3]
    by_cases h : a ≤ va.toNat + k <;> simp [h]
  refine ⟨by omega, fun k hk' => ?_, n - 1, by omega, ?_⟩
  · rw [hc k hk']
    split <;> exact ⟨_, rfl⟩
  · rw [hc (n - 1) (by omega), if_pos (by omega)]
    exact ⟨_, rfl, rfl⟩

/-- A step that faults, an instruction refused, and accesses of 1 to 16 bytes the last of which is an I/O address. -/
theorem test_HowRunsStop_hypotheses :
    (∃ (s : State) (f : Fault), step s = .fault f) ∧ (∃ (i : Instr) (s : State) (r : Refusal), exec i s = .refused r) ∧
    (∀ f ∈ loadForms, ∃ (p : Place) (s : State), BaseAligned s 1 f.size ∧
      ReachesIO s .read (s.lo 1) (p.address s 1 f.size) (f.size / 8)) ∧
    (∀ f ∈ storeForms ++ multiplexForms ++ addSwapForms ++ compareSwapForms ++ multiplexSwapForms,
      ∃ (p : Place) (s : State), BaseAligned s 1 f.size ∧
        ReachesIO s .write (s.lo 1) (p.address s 1 f.size) (f.size / 8)) ∧
    (∃ s : State, BaseAligned s 1 64 ∧ BaseAligned s 2 64 ∧ (∃ pa, s.Maps .write (s.lo 1) (s.lo 1) 8 pa) ∧
      ReachesIO s .write (s.lo 2) (s.lo 2) 8) ∧
    (∃ s : State, ReachesIO s .read s.exceptionBase (s.exceptionBase + s.thread * 128#64) 16) ∧
    (∃ s : State, (s.lo 1).toNat % 8 = 0 ∧ s.privilegeLevel.toNat < (s.lo 5).toNat % 4 ∧
      ReachesIO s .gateway (s.lo 1) (s.lo 1) 8) ∧
    ∃ s : State, s.halted = false ∧ ReachesIO s .execute s.pc s.pc 4 := by
  have h : faults (step ((machine [] []).withFetchWord 32 (encode (.aRes 0)).toNat)) .reservedInstruction 0x1000 = true := by
    decide +kernel
  have size : ∀ f ∈ loadForms.map LoadForm.size ++
      (storeForms ++ multiplexForms ++ addSwapForms ++ compareSwapForms ++ multiplexSwapForms).map StoreForm.size,
      0 < f / 8 ∧ f / 8 ≤ 16 ∧ BaseAligned (ioFrom (0x1000 + f / 8 - 1) [(1, 0x1000)]) 1 f ∧
        (Place.offset 0).address (ioFrom (0x1000 + f / 8 - 1) [(1, 0x1000)]) 1 f = 0x1000#64 := by
    unfold BaseAligned
    decide +kernel
  have ready : ∀ (kind : AccessKind) (ba : Octlet) (f : Nat), 0 < f / 8 → f / 8 ≤ 16 →
      ReachesIO (ioFrom (0x1000 + f / 8 - 1) [(1, 0x1000)]) kind ba 0x1000#64 (f / 8) := by
    intro kind ba f h0 h1
    have e : (0x1000#64).toNat = 0x1000 := rfl
    exact reaches_io (regs := []) rfl kind ba _ h0 (by omega) (by omega) (by omega)
  refine ⟨⟨_, _, fault_of_faults h⟩, ⟨.l16L 1 2 3, machine [(2, 0xFFFFFFFFFFFFFFFF)] [], .accessPastEnd, rfl⟩,
    fun f hf => ?_, fun f hf => ?_,
    ⟨ioFrom 0x300F [(1, 0x3000), (2, 0x3008)], ?_, ?_, ⟨fun k => 0x3000 + k, by decide +kernel, fun j hj => ?_⟩,
      reaches_io (a := 0x300F) (regs := []) rfl _ _ _ (by decide) (by decide) (by decide +kernel) (by decide)⟩,
    ⟨{ ioFrom 0x100F [] with exceptionBase := 0x1000#64 },
      reaches_io (a := 0x100F) (regs := []) rfl _ _ _ (by decide) (by decide) (by decide +kernel) (by decide)⟩,
    ⟨{ ioFrom 0x8007 [(1, 0x8000), (5, 0x20003)] with privilegeLevel := 2 }, by decide +kernel, by decide +kernel,
      reaches_io (a := 0x8007) (regs := []) rfl _ _ _ (by decide) (by decide) (by decide +kernel) (by decide)⟩,
    ioFrom 0x1003 [], rfl,
    reaches_io (a := 0x1003) (regs := []) rfl _ _ _ (by decide) (by decide) (by decide +kernel) (by decide)⟩
  · obtain ⟨h0, h1, h2, h3⟩ := size f.size (List.mem_append_left _ (List.mem_map_of_mem hf))
    exact ⟨.offset 0, _, h2, h3 ▸ ready .read _ _ h0 h1⟩
  · obtain ⟨h0, h1, h2, h3⟩ := size f.size (List.mem_append_right _ (List.mem_map_of_mem hf))
    exact ⟨.offset 0, _, h2, h3 ▸ ready .write _ _ h0 h1⟩
  · unfold BaseAligned; decide +kernel
  · unfold BaseAligned; decide +kernel
  · interval_cases j <;> rfl

/-- Each kind of exception, raised. -/
theorem test_ExceptionsByInstruction_hypotheses :
    (∃ (i : Instr) (s : State) (pc : Octlet), exec i s = .fault (.raised .gatewayDisallowed pc)) ∧
    (∃ (i : Instr) (s : State) (pc : Octlet), exec i s = .fault (.raised .fixedPointArithmetic pc)) ∧
    (∃ (i : Instr) (s : State) (pc : Octlet), exec i s = .fault (.raised .reservedInstruction pc)) ∧
    ∃ (i : Instr) (s : State) (pc : Octlet), exec i s = .fault (.raised (.access .disallowedByVirtualAddress) pc) := by
  have h : faults (exec (.l16AL 3 1 2) (machine [(1, 1)] [])) (.access .disallowedByVirtualAddress) 0x1000 = true := by
    decide +kernel
  exact ⟨⟨_, _, _, fault_of_faults test_bGate_disallowed⟩, ⟨_, _, _, fault_of_faults test_aAddO_raises⟩,
    ⟨_, _, _, fault_of_faults test_gCopyI16_reserved⟩, _, _, _, fault_of_faults h⟩

end Sys2Proof.Tests
end

section
/-! The family 10_state: what an instruction that answers a state, and takes no exception, has done to every piece of
the state, said once for all 345 instructions (`Effect`, `exec_effect`), and the rules about the whole machine that
follow from it. -/

namespace Sys2Proof.Machine

open Sys2Proof Sys2Proof.Claims

/-! ### Memories in canonical form -/

/-- What it is for a list that is not empty to be canonical. -/
theorem canonical_cons {c : Host.Cell} {cs : List Host.Cell} :
    canonical (c :: cs) = true ↔ c.2 ≠ Memory.unlisted ∧ (∀ d ∈ cs, c.1 < d.1) ∧ canonical cs = true := by
  simp [canonical, and_assoc]

/-- In a canonical list, an address below that of the first cell reads as the unlisted value. -/
theorem readCells_below_head {c : Host.Cell} {cs : List Host.Cell} {a : Nat} (hc : canonical (c :: cs) = true)
    (ha : a < c.1) : readCells (c :: cs) a = Memory.unlisted := by
  obtain ⟨-, hrise, -⟩ := canonical_cons.1 hc
  refine readCells_of_absent fun d hd => ?_
  rcases List.mem_cons.1 hd with rfl | hd
  · exact ha.ne'
  · exact (ha.trans (hrise d hd)).ne'

/-- In a canonical list, the address of the first cell does not read as the unlisted value. -/
theorem readCells_head_ne {c : Host.Cell} {cs : List Host.Cell} (hc : canonical (c :: cs) = true) :
    readCells (c :: cs) c.1 ≠ Memory.unlisted := by
  obtain ⟨hval, -, -⟩ := canonical_cons.1 hc
  simpa [readCells] using hval

/-- In a canonical list, the address of the first cell is not listed again. -/
theorem readCells_tail_head {c : Host.Cell} {cs : List Host.Cell} (hc : canonical (c :: cs) = true) :
    readCells cs c.1 = Memory.unlisted := by
  obtain ⟨-, hrise, -⟩ := canonical_cons.1 hc
  exact readCells_of_absent fun d hd => (hrise d hd).ne'

/-- Of two canonical lists that read alike, neither starts below the other. -/
theorem head_le_of_reads_alike {c d : Host.Cell} {cs ds : List Host.Cell} (hc : canonical (c :: cs) = true)
    (hd : canonical (d :: ds) = true) (h : ∀ a, readCells (c :: cs) a = readCells (d :: ds) a) : d.1 ≤ c.1 := by
  by_contra hlt
  exact readCells_head_ne hc ((h c.1).trans (readCells_below_head hd (not_le.1 hlt)))

/-- Canonical lists that read alike at every address are equal: their first cells have the same address, hence the same
value, and no later cell has that address. -/
theorem canonical_ext {cs ds : List Host.Cell} (hc : canonical cs = true) (hd : canonical ds = true)
    (h : ∀ a, readCells cs a = readCells ds a) : cs = ds := by
  induction cs generalizing ds with
  | nil =>
    cases ds with
    | nil => rfl
    | cons d ds => exact absurd (h d.1).symm (readCells_head_ne hd)
  | cons c cs ih =>
    cases ds with
    | nil => exact absurd (h c.1) (readCells_head_ne hc)
    | cons d ds =>
      have haddr : c.1 = d.1 :=
        le_antisymm (head_le_of_reads_alike hd hc fun a => (h a).symm) (head_le_of_reads_alike hc hd h)
      have hval : c.2 = d.2 := by simpa [readCells, haddr] using h c.1
      have htail : ∀ a, readCells cs a = readCells ds a := by
        intro a
        by_cases ha : c.1 = a
        · rw [← ha, readCells_tail_head hc, haddr, readCells_tail_head hd]
        · simpa [readCells, ha, ← haddr] using h a
      rw [Prod.ext haddr hval, ih (canonical_cons.1 hc).2.2 (canonical_cons.1 hd).2.2 htail]

/-- Settles O52: memory is its list of cells, and canonical lists that read alike are equal. -/
theorem canonicalMemoriesEqual : Obligations.CanonicalMemoriesEqual := fun m n hm hn h =>
  congrArg Memory.mk (canonical_ext (cs := m.cells) (ds := n.cells) hm hn h)

/-! ### Addresses that are multiples of 4 -/

/-- Two zero bits appended are the low bits. -/
theorem setWidth_append_zeros {n : Nat} (x : BitVec n) : (x ++ 0#2).setWidth 2 = 0#2 := by
  apply BitVec.eq_of_getLsbD_eq
  intro i hi
  rw [BitVec.getLsbD_setWidth, BitVec.getLsbD_append]
  simp [hi]

/-- The target of a register branch is a multiple of 4. -/
theorem wordTarget_aligned (r : Octlet) : (wordTarget r).setWidth 2 = 0#2 := setWidth_append_zeros _

/-- The next instruction after an aligned one is aligned. -/
theorem aligned_add_four {pc : Octlet} (h : pc.setWidth 2 = 0#2) : (pc + 4#64).setWidth 2 = 0#2 := by
  rw [BitVec.setWidth_add _ _ (by decide), h]
  rfl

/-- The target of an immediate branch at an aligned instruction is aligned. -/
theorem State.branchTarget_aligned {n : Nat} {s : State} (h : s.pc.setWidth 2 = 0#2) (offset : BitVec n) :
    (s.branchTarget offset).setWidth 2 = 0#2 := by
  have hoffset : ((offset ++ 0#2).signExtend 64).setWidth 2 = 0#2 := by
    apply BitVec.eq_of_getLsbD_eq
    intro i hi
    rw [BitVec.getLsbD_setWidth, BitVec.getLsbD_signExtend, BitVec.getLsbD_append]
    simp [hi, show i < n + 2 by omega, show i < 64 by omega]
  rw [State.branchTarget, BitVec.setWidth_add _ _ (by decide), h, hoffset]
  rfl

/-! ### What an instruction may do to the state -/

/-- The only register that may differ is `dst`. -/
def State.KeepsRegsBut (s t : State) (dst : Option Reg) : Prop := ∀ r, dst ≠ some r → t.reg r = s.reg r

/-- The instruction wrote register `dst`, if any, and went on to `pc + 4`. -/
structure Computes (dst : Option Reg) (s t : State) : Prop where
  regs : s.KeepsRegsBut t dst
  rest : t = { s with regs := t.regs, pc := s.pc + 4#64, draws := t.draws }

/-- The instruction may have stored, wrote register `dst`, if any, and went on to `pc + 4`. -/
structure Stores (dst : Option Reg) (s t : State) : Prop where
  regs : s.KeepsRegsBut t dst
  wf : s.mem.wf = true → t.mem.wf = true
  inSpace : s.mem.inSpace = true → t.mem.inSpace = true
  rest : t = { s with regs := t.regs, pc := s.pc + 4#64, mem := t.mem, stale := t.stale, draws := t.draws }

/-- The instruction wrote register `dst`, if any, and went on at some multiple of 4. -/
structure Branches (dst : Option Reg) (s t : State) : Prop where
  regs : s.KeepsRegsBut t dst
  aligned : s.pc.setWidth 2 = 0#2 → t.pc.setWidth 2 = 0#2
  rest : t = { s with regs := t.regs, pc := t.pc, draws := t.draws }

/-- What each instruction has done when it answers `t` in `s` and has taken no exception.  Five branches have a kind of
their own, since they change what no other instruction does: the level, `ExceptionState`, the halt, and what a fetch may
observe. -/
inductive Effect (s : State) : Instr → State → Prop where
  | computes {i : Instr} {t : State} (hhalt : ∀ rd rc rb, i ≠ .bHalt rd rc rb)
      (h : Computes (destination i) s t) : Effect s i t
  | stores {i : Instr} {t : State} (hstore : isStore i = true) (h : Stores (destination i) s t) : Effect s i t
  | branches {i : Instr} {t : State} (hpc : assignsPc i = true) (h : Branches (destination i) s t) : Effect s i t
  | barrier (rd rc rb : Reg) : Effect s (.bBarrier rd rc rb) (s.jump (wordTarget (s.lo rd))).fetchBarrier
  | down (rd rc rb : Reg) :
      Effect s (.bDown rd rc rb) ((s.lowerPrivilege ((s.lo rd).setWidth 2)).jump (wordTarget (s.lo rd)))
  | gate (rd rc rb : Reg) {p : Level} (hp : s.privilegeLevel ≤ p) :
      Effect s (.bGate rd rc rb) (enterGateway rb (s.setPrivilege p) s)
  | back (rd rc rb : Reg) (a : Hexlet) :
      Effect s (.bBack rd rc rb)
        ((((s.lowerPrivilege ((s.lo 0).setWidth 2)).jump (wordTarget (s.lo 0))).clearExceptionState).setReg 0 a)
  | halt (rd rc rb : Reg) : Effect s (.bHalt rd rc rb) s.halt

/-! ### Registers kept -/

/-- Nothing written. -/
theorem State.KeepsRegsBut.of_eq {s t : State} {dst : Option Reg} (h : t.regs = s.regs) : s.KeepsRegsBut t dst := by
  intro r _
  simp only [State.reg, h]

/-- A 128-bit write of the destination. -/
theorem State.KeepsRegsBut.setReg {s u t : State} {rd : Reg} {v : Hexlet} (hu : u.regs = s.regs)
    (ht : t.regs = (u.setReg rd v).regs) : s.KeepsRegsBut t (some rd) := by
  intro r hr
  have hne : r ≠ rd := fun e => hr (e ▸ rfl)
  have h := State.reg_setReg_ne u v hne
  simpa only [State.reg, ht, hu] using h

/-- A 64-bit write of the destination. -/
theorem State.KeepsRegsBut.setReg64 {s u t : State} {rd : Reg} {v : Octlet} (hu : u.regs = s.regs)
    (ht : t.regs = (u.setReg64 rd v).regs) : s.KeepsRegsBut t (some rd) :=
  State.KeepsRegsBut.setReg (v := u.upperAfter rd v ++ v) hu ht

/-! ### Instructions that go on

One lemma for each shared body of the meanings, and for each meaning that has no shared one. -/

theorem computes_of_next_advance {s t : State} (h : (.next s.advance : Result) = .next t) : Computes none s t := by
  cases h
  exact ⟨.of_eq rfl, rfl⟩

theorem computes_of_groupWrite {rd : Reg} {a : Hexlet} {s t : State} (h : groupWrite rd a s = .next t) :
    Computes (some rd) s t := by
  cases h
  exact ⟨.setReg rfl rfl, rfl⟩

theorem computes_of_addressWrite {rd : Reg} {a : Octlet} {s t : State} (h : addressWrite rd a s = .next t) :
    Computes (some rd) s t := by
  cases h
  exact ⟨.setReg64 rfl rfl, rfl⟩

theorem computes_of_groupChecked {rd : Reg} {a : Option Hexlet} {s t : State} (h : groupChecked rd a s = .next t)
    (ht : ¬s.Trapped t) : Computes (some rd) s t := by
  cases a with
  | none => exact absurd ⟨_, h⟩ ht
  | some a => exact computes_of_groupWrite h

theorem computes_of_addressChecked {rd : Reg} {a : Option Octlet} {s t : State}
    (h : addressChecked rd a s = .next t) (ht : ¬s.Trapped t) : Computes (some rd) s t := by
  cases a with
  | none => exact absurd ⟨_, h⟩ ht
  | some a => exact computes_of_addressWrite h

theorem computes_of_addressCompare {r : Relation} {rd rc : Reg} {s t : State}
    (h : addressCompare r rd rc s = .next t) (ht : ¬s.Trapped t) : Computes none s t := by
  unfold addressCompare at h
  split at h
  · exact absurd ⟨_, h⟩ ht
  · exact computes_of_next_advance h

theorem computes_of_execGCopyI16 {sign : BitVec 1} {rd : Reg} {imm : BitVec 16} {s t : State}
    (h : execGCopyI16 sign rd imm s = .next t) (ht : ¬s.Trapped t) : Computes (some rd) s t := by
  unfold execGCopyI16 at h
  split at h
  · exact absurd ⟨_, h⟩ ht
  · exact computes_of_groupWrite h

theorem computes_of_execBHint {rd : Reg} {count simm : BitVec 6} {s t : State}
    (h : execBHint rd count simm s = .next t) (ht : ¬s.Trapped t) : Computes none s t := by
  unfold execBHint at h
  split at h
  · exact absurd ⟨_, h⟩ ht
  · exact computes_of_next_advance h

theorem computes_of_load {ext : Extension} {al : Alignment} {size : Nat} {ord : ByteOrder} {rd rc : Reg} {va : Octlet}
    {s t : State} (h : load ext al size ord rd rc va s = .next t) (ht : ¬s.Trapped t) : Computes (some rd) s t := by
  obtain ⟨-, v, -, rfl⟩ := (load_eq_next h).resolve_right ht
  exact ⟨.setReg rfl rfl, rfl⟩

/-! ### Instructions that store -/

/-- `u` is `s` after some stores: only memory and what a fetch may observe of it changed, and memory as it should. -/
structure State.StoredTo (s u : State) : Prop where
  wf : s.mem.wf = true → u.mem.wf = true
  inSpace : s.mem.inSpace = true → u.mem.inSpace = true
  rest : u = { s with mem := u.mem, stale := u.stale }

theorem State.StoredTo.refl (s : State) : s.StoredTo s := ⟨id, id, rfl⟩

theorem State.StoredTo.trans {s u v : State} (h : s.StoredTo u) (h' : u.StoredTo v) : s.StoredTo v :=
  ⟨h'.wf ∘ h.wf, h'.inSpace ∘ h.inSpace, by rw [h'.rest, h.rest]⟩

theorem State.storedTo_of_storeMemory {s u : State} {ba va : Octlet} {size : Nat} {ord : ByteOrder}
    {data : BitVec size} (h : s.storeMemory ba va size ord data = .ok u) : s.StoredTo u := by
  obtain ⟨pa, -, hrest, -⟩ := State.storeMemory_eq_ok h
  exact ⟨State.storeMemory_wf h, State.storeMemory_inSpace h, hrest⟩

theorem State.StoredTo.advance {s u : State} (h : s.StoredTo u) : Stores none s u.advance :=
  ⟨.of_eq (by rw [h.rest]; rfl), h.wf, h.inSpace, by rw [h.rest]; rfl⟩

theorem State.StoredTo.setReg_advance {s u : State} (h : s.StoredTo u) (rd : Reg) (v : Hexlet) :
    Stores (some rd) s (u.setReg rd v).advance :=
  ⟨.setReg (u := u) (by rw [h.rest]) rfl, h.wf, h.inSpace, by rw [h.rest]; rfl⟩

theorem State.StoredTo.setReg64_advance {s u : State} (h : s.StoredTo u) (rd : Reg) (v : Octlet) :
    Stores (some rd) s (u.setReg64 rd v).advance :=
  ⟨.setReg64 (u := u) (by rw [h.rest]) rfl, h.wf, h.inSpace, by rw [h.rest]; rfl⟩

theorem stores_of_store {al : Alignment} {size : Nat} {ord : ByteOrder} {rd rc : Reg} {va : Octlet} {s t : State}
    (h : store al size ord rd rc va s = .next t) (ht : ¬s.Trapped t) : Stores none s t := by
  obtain ⟨-, u, hu, rfl⟩ := (store_eq_next h).resolve_right ht
  exact (State.storedTo_of_storeMemory hu).advance

/-- A `lock` block ends by `finish` on a state in which it may have stored. -/
theorem lockedOctlet_stored {ord : ByteOrder} {rc : Reg} {va : Octlet} {s t : State}
    {update : Octlet → Option Octlet} {finish : Octlet → State → State}
    (h : lockedOctlet ord rc va s update finish = .next t) (ht : ¬s.Trapped t) :
    ∃ a u, s.StoredTo u ∧ t = (finish a u).advance := by
  obtain ⟨-, a, -, ⟨-, rfl⟩ | ⟨m, u, -, hu, rfl⟩⟩ := (lockedOctlet_eq_next h).resolve_right ht
  · exact ⟨a, s, .refl s, rfl⟩
  · exact ⟨a, u, State.storedTo_of_storeMemory hu, rfl⟩

theorem stores_of_storeMultiplex {ord : ByteOrder} {rd rc : Reg} {va : Octlet} {s t : State}
    (h : storeMultiplex ord rd rc va s = .next t) (ht : ¬s.Trapped t) : Stores none s t := by
  obtain ⟨a, u, hu, rfl⟩ := lockedOctlet_stored h ht
  exact hu.advance

/-- The in-place stores: a `lock` block that returns the old octlet in `x[rd]`. -/
theorem stores_of_swap {ord : ByteOrder} {rd rc : Reg} {va : Octlet} {s t : State} {update : Octlet → Option Octlet}
    (h : lockedOctlet ord rc va s update (fun a t => t.setReg64 rd a) = .next t) (ht : ¬s.Trapped t) :
    Stores (some rd) s t := by
  obtain ⟨a, u, hu, rfl⟩ := lockedOctlet_stored h ht
  exact hu.setReg64_advance rd a

theorem stores_of_addSwap {ord : ByteOrder} {rd rc : Reg} {va : Octlet} {s t : State}
    (h : addSwap ord rd rc va s = .next t) (ht : ¬s.Trapped t) : Stores (some rd) s t := stores_of_swap h ht

theorem stores_of_compareSwap {ord : ByteOrder} {rd rc : Reg} {va : Octlet} {s t : State}
    (h : compareSwap ord rd rc va s = .next t) (ht : ¬s.Trapped t) : Stores (some rd) s t := stores_of_swap h ht

theorem stores_of_multiplexSwap {ord : ByteOrder} {rd rc : Reg} {va : Octlet} {s t : State}
    (h : multiplexSwap ord rd rc va s = .next t) (ht : ¬s.Trapped t) : Stores (some rd) s t := stores_of_swap h ht

theorem stores_of_doubleCompareSwap {ord : ByteOrder} {rd rc rb : Reg} {s t : State}
    (h : doubleCompareSwap ord rd rc rb s = .next t) (ht : ¬s.Trapped t) : Stores (some rd) s t := by
  unfold doubleCompareSwap at h
  split at h
  · exact absurd ⟨_, h⟩ ht
  obtain ⟨a1, -, h⟩ := (Access.andThen_eq_next h).resolve_right ht
  obtain ⟨a2, -, h⟩ := (Access.andThen_eq_next h).resolve_right ht
  split at h
  · obtain ⟨u, hu, h⟩ := (Access.andThen_eq_next h).resolve_right ht
    obtain ⟨v, hv, h⟩ := (Access.andThen_eq_next h).resolve_right ht
    cases h
    exact ((State.storedTo_of_storeMemory hu).trans (State.storedTo_of_storeMemory hv)).setReg_advance _ _
  · cases h
    exact (State.StoredTo.refl s).setReg_advance _ _

/-! ### What the branches do -/

/-- A branch that writes no register. -/
theorem Branches.jump {s : State} {target : Octlet}
    (h : s.pc.setWidth 2 = 0#2 → target.setWidth 2 = 0#2) : Branches none s (s.jump target) :=
  ⟨.of_eq rfl, h, rfl⟩

/-- A branch that leaves a link. -/
theorem Branches.setReg64_jump {s : State} {target : Octlet} (rd : Reg) (a : Octlet)
    (h : s.pc.setWidth 2 = 0#2 → target.setWidth 2 = 0#2) :
    Branches (some rd) s ((s.setReg64 rd a).jump target) := ⟨.setReg64 rfl rfl, h, rfl⟩

/-- What B and B.BARRIER have done when they answer a state: their tests passed, and the branch was taken. -/
theorem branchRegister_eq_next {rd rc rb : Reg} {s t : State} {take : Octlet → Result}
    (h : branchRegister rd rc rb s take = .next t) (ht : ¬s.Trapped t) : take (wordTarget (s.lo rd)) = .next t := by
  unfold branchRegister at h
  split at h
  · exact absurd ⟨_, h⟩ ht
  split at h
  · exact absurd ⟨_, h⟩ ht
  · exact h

theorem branches_of_execB {rd rc rb : Reg} {s t : State} (h : execB rd rc rb s = .next t) (ht : ¬s.Trapped t) :
    Branches none s t := by
  cases branchRegister_eq_next h ht
  exact .jump fun _ => wordTarget_aligned _

theorem branches_of_branchIf {taken : Bool} {offset : BitVec 12} {s t : State}
    (h : branchIf taken offset s = .next t) : Branches none s t := by
  cases taken with
  | true =>
    cases h
    exact .jump fun hs => State.branchTarget_aligned hs offset
  | false =>
    cases h
    exact .jump fun hs => aligned_add_four hs

theorem branches_of_execBI {offset : BitVec 24} {s t : State} (h : execBI offset s = .next t) : Branches none s t := by
  cases h
  exact .jump fun hs => State.branchTarget_aligned hs offset

theorem branches_of_execBLinkI {offset : BitVec 24} {s t : State} (h : execBLinkI offset s = .next t) :
    Branches (some 0) s t := by
  cases h
  exact .setReg64_jump 0 _ fun hs => State.branchTarget_aligned hs offset

theorem branches_of_execBLink {rd rc rb : Reg} {s t : State} (h : execBLink rd rc rb s = .next t)
    (ht : ¬s.Trapped t) : Branches (some rd) s t := by
  unfold execBLink at h
  split at h
  · exact absurd ⟨_, h⟩ ht
  split at h
  · exact absurd ⟨_, h⟩ ht
  · cases h
    exact .setReg64_jump rd _ fun _ => wordTarget_aligned _

theorem effect_of_execBBarrier {rd rc rb : Reg} {s t : State} (h : execBBarrier rd rc rb s = .next t)
    (ht : ¬s.Trapped t) : Effect s (.bBarrier rd rc rb) t := by
  cases branchRegister_eq_next h ht
  exact .barrier rd rc rb

theorem effect_of_execBDown {rd rc rb : Reg} {s t : State} (h : execBDown rd rc rb s = .next t)
    (ht : ¬s.Trapped t) : Effect s (.bDown rd rc rb) t := by
  unfold execBDown at h
  split at h
  · exact absurd ⟨_, h⟩ ht
  · cases h
    exact .down rd rc rb

theorem effect_of_execBGate {rd rc rb : Reg} {s t : State} (h : execBGate rd rc rb s = .next t)
    (ht : ¬s.Trapped t) : Effect s (.bGate rd rc rb) t := by
  unfold execBGate at h
  split at h
  · exact absurd ⟨_, h⟩ ht
  split at h
  · exact absurd ⟨_, h⟩ ht
  split at h
  · rename_i hlt
    obtain ⟨m, -, h⟩ := (Access.andThen_eq_next h).resolve_right ht
    split at h
    · exact absurd ⟨_, h⟩ ht
    · cases h
      exact .gate rd rc rb (BitVec.le_of_lt hlt)
  · cases h
    exact .gate rd rc rb (BitVec.le_refl s.privilegeLevel)

theorem effect_of_execBBack {rd rc rb : Reg} {s t : State} (h : execBBack rd rc rb s = .next t)
    (ht : ¬s.Trapped t) : Effect s (.bBack rd rc rb) t := by
  unfold execBBack at h
  split at h
  · exact absurd ⟨_, h⟩ ht
  · obtain ⟨a, -, rfl⟩ := (State.returnFromException_eq_next h).resolve_right ht
    exact .back rd rc rb a

theorem effect_of_execBHalt {rd rc rb : Reg} {s t : State} (h : execBHalt rd rc rb s = .next t)
    (ht : ¬s.Trapped t) : Effect s (.bHalt rd rc rb) t := by
  unfold execBHalt at h
  split at h
  · exact absurd ⟨_, h⟩ ht
  · cases h
    exact .halt rd rc rb

/-! ### All instructions -/

/-- What an instruction that answers a state has done, unless the state is that of an exception taken: one case for each
shared body of the meanings. -/
theorem exec_effect {i : Instr} {s t : State} (h : exec i s = .next t) (ht : ¬s.Trapped t) : Effect s i t := by
  unfold exec at h
  cases i with
  | l8 | l16B | l16AB | l16L | l16AL | l32B | l32AB | l32L | l32AL | l64B | l64AB | l64L | l64AL | l128B
  | l128AB | l128L | l128AL | lU8 | lU16B | lU16AB | lU16L | lU16AL | lU32B | lU32AB | lU32L | lU32AL | lU64B
  | lU64AB | lU64L | lU64AL | lI8 | lI16AB | lI16B | lI16AL | lI16L | lI32AB | lI32B | lI32AL | lI32L | lI64AB
  | lI64B | lI64AL | lI64L | lI128AB | lI128B | lI128AL | lI128L | lIU8 | lIU16AB | lIU16B | lIU16AL | lIU16L
  | lIU32AB | lIU32B | lIU32AL | lIU32L | lIU64AB | lIU64B | lIU64AL | lIU64L =>
    exact .computes nofun (computes_of_load h ht)
  | s8 | s16B | s16AB | s16L | s16AL | s32B | s32AB | s32L | s32AL | s64B | s64AB | s64L | s64AL | s128B
  | s128AB | s128L | s128AL | sI8 | sI16AB | sI16B | sI16AL | sI16L | sI32AB | sI32B | sI32AL | sI32L | sI64AB
  | sI64B | sI64AL | sI64L | sI128AB | sI128B | sI128AL | sI128L =>
    exact .stores rfl (stores_of_store h ht)
  | sMux64AB | sMux64AL | sMuxi64AB | sMuxi64AL =>
    exact .stores rfl (stores_of_storeMultiplex h ht)
  | aRes =>
    exact absurd ⟨_, h⟩ ht
  | aAdd | aAnd | aAndn | aNand | aNor | aOr | aOrn | aXnor | aXor | aAddI | aAndI | aNandI | aNorI | aOrI
  | aXorI | aSubI | aSub | aShlIAdd | aShlISub | aShlI | aShrI | aShrIU | aMux =>
    exact .computes nofun (computes_of_addressWrite h)
  | aSetAndEI | aSetAndNeI | aSetEI | aSetGeI | aSetLI | aSetNeI | aSetGeIU | aSetLIU | aSetAndE | aSetAndNe
  | aSetE | aSetGe | aSetGeU | aSetL | aSetLU | aSetNe =>
    exact .computes nofun (computes_of_addressWrite h)
  | aAddO | aAddUO | aAddIO | aAddIUO | aSubIO | aSubIUO | aSubO | aSubUO | aShlIO | aShlIUO =>
    exact .computes nofun (computes_of_addressChecked h ht)
  | aComAndE | aComAndNe | aComE | aComGe | aComGeU | aComL | aComLU | aComNe =>
    exact .computes nofun (computes_of_addressCompare h ht)
  | aCopyI =>
    exact .computes nofun (computes_of_groupWrite h)
  | gAddH8C | gAddH8F | gAddH8N | gAddH8Z | gAddH16C | gAddH16F | gAddH16N | gAddH16Z | gAddH32C | gAddH32F
  | gAddH32N | gAddH32Z | gAddH64C | gAddH64F | gAddH64N | gAddH64Z | gAddH128C | gAddH128F | gAddH128N
  | gAddH128Z | gAddHU8C | gAddHU8F | gAddHU8N | gAddHU16C | gAddHU16F | gAddHU16N | gAddHU32C | gAddHU32F
  | gAddHU32N | gAddHU64C | gAddHU64F | gAddHU64N | gAddHU128C | gAddHU128F | gAddHU128N | gCopyI32 | gCopyI64
  | gCopyI128 | gAaa8 | gAaa16 | gAaa32 | gAaa64 | gAaa128 | gAsa8 | gAsa16 | gAsa32 | gAsa64 | gAsa128
  | gShlIAdd8 | gShlIAdd16 | gShlIAdd32 | gShlIAdd64 | gShlIAdd128 | gShlISub8 | gShlISub16 | gShlISub32
  | gShlISub64 | gShlISub128 | gAddI16 | gAddI32 | gAddI64 | gAddI128 | gAndI16 | gAndI32 | gAndI64 | gAndI128
  | gNandI16 | gNandI32 | gNandI64 | gNandI128 | gNorI16 | gNorI32 | gNorI64 | gNorI128 | gOrI16 | gOrI32
  | gOrI64 | gOrI128 | gXorI16 | gXorI32 | gXorI64 | gXorI128 | gSetAndEI16 | gSetAndEI32 | gSetAndEI64
  | gSetAndEI128 | gSetAndNeI16 | gSetAndNeI32 | gSetAndNeI64 | gSetAndNeI128 | gSetEI16 | gSetEI32 | gSetEI64
  | gSetEI128 | gSetGeI16 | gSetGeI32 | gSetGeI64 | gSetGeI128 | gSetGeIU16 | gSetGeIU32 | gSetGeIU64
  | gSetGeIU128 | gSetLI16 | gSetLI32 | gSetLI64 | gSetLI128 | gSetLIU16 | gSetLIU32 | gSetLIU64 | gSetLIU128
  | gSetNeI16 | gSetNeI32 | gSetNeI64 | gSetNeI128 | gSubI16 | gSubI32 | gSubI64 | gSubI128 =>
    exact .computes nofun (computes_of_groupWrite h)
  | gAddI16O | gAddI32O | gAddI64O | gAddI128O | gAddIU16O | gAddIU32O | gAddIU64O | gAddIU128O | gSubI16O
  | gSubI32O | gSubI64O | gSubI128O | gSubIU16O | gSubIU32O | gSubIU64O | gSubIU128O =>
    exact .computes nofun (computes_of_groupChecked h ht)
  | gCopyI16 =>
    exact .computes nofun (computes_of_execGCopyI16 h ht)
  | bHint =>
    exact .computes nofun (computes_of_execBHint h ht)
  | bHintI =>
    exact .computes nofun (computes_of_next_advance h)
  | sASI64AB | sASI64AL | sAS64AB | sAS64AL =>
    exact .stores rfl (stores_of_addSwap h ht)
  | sCSI64AB | sCSI64AL | sCS64AB | sCS64AL =>
    exact .stores rfl (stores_of_compareSwap h ht)
  | sMSI64AB | sMSI64AL | sMS64AB | sMS64AL =>
    exact .stores rfl (stores_of_multiplexSwap h ht)
  | sDCS64AB | sDCS64AL =>
    exact .stores rfl (stores_of_doubleCompareSwap h ht)
  | bAndE | bAndNe | bE | bGe | bL | bNe | bGeU | bLU | bEF16 | bEF32 | bEF64 | bEF128 | bGeF16 | bGeF32
  | bGeF64 | bGeF128 | bLF16 | bLF32 | bLF64 | bLF128 | bLgF16 | bLgF32 | bLgF64 | bLgF128 | bIF32 | bNiF32
  | bNvF32 | bVF32 =>
    exact .branches rfl (branches_of_branchIf h)
  | b =>
    exact .branches rfl (branches_of_execB h ht)
  | bI =>
    exact .branches rfl (branches_of_execBI h)
  | bLinkI =>
    exact .branches rfl (branches_of_execBLinkI h)
  | bLink =>
    exact .branches rfl (branches_of_execBLink h ht)
  | bBarrier =>
    exact effect_of_execBBarrier h ht
  | bDown =>
    exact effect_of_execBDown h ht
  | bGate =>
    exact effect_of_execBGate h ht
  | bBack =>
    exact effect_of_execBBack h ht
  | bHalt =>
    exact effect_of_execBHalt h ht

/-- An instruction that completes has taken no exception. -/
theorem not_trapped_of_completes {i : Instr} {s t : State} (h : Completes i s t) : ¬s.Trapped t := by
  rintro ⟨e, he⟩
  obtain ⟨hcont, rfl⟩ := State.raiseExn_eq_next he
  exact h.2 e ⟨fun hfinal => by simp [hcont] at hfinal, fun _ => h.1⟩

/-- What an instruction that completes has done. -/
theorem effect_of_completes {i : Instr} {s t : State} (h : Completes i s t) : Effect s i t :=
  exec_effect h.1 (not_trapped_of_completes h)

/-- What a step that answers a state has done: nothing, in a halted machine; or, after the fetch has drawn its free
values, taken an exception or completed an instruction. -/
theorem step_effect {s t : State} (h : step s = .next t) :
    t = s ∨ ∃ n, State.Trapped { s with draws := n } t ∨ ∃ i, Effect { s with draws := n } i t := by
  by_cases hr : s.halted = true
  · rw [step, if_pos hr] at h
    cases h
    exact .inl rfl
  refine .inr ?_
  obtain ⟨w, u, -, hu, hw⟩ | ht := step_eq_next (Bool.eq_false_of_not_eq_true hr) h
  · refine ⟨u.draws, ?_⟩
    rw [← hu]
    obtain ⟨i, -, -, hi⟩ | ⟨-, ht⟩ := runWord_eq_next hw
    · by_cases ht : u.Trapped t
      · exact .inl ht
      · exact .inr ⟨i, exec_effect hi ht⟩
    · exact .inl ⟨_, ht⟩
  · exact ⟨s.draws, .inl ht⟩

/-! ### The invariant -/

/-- Every instruction keeps memory canonical and within the physical addresses, and `pc` a multiple of 4. -/
theorem Effect.inv {i : Instr} {s t : State} (h : Effect s i t) (hs : s.Inv) : t.Inv := by
  obtain ⟨hwf, hspace, hpc⟩ := hs
  cases h with
  | computes _ h =>
    rw [h.rest]
    exact ⟨hwf, hspace, aligned_add_four hpc⟩
  | stores _ h =>
    refine ⟨h.wf hwf, h.inSpace hspace, ?_⟩
    rw [h.rest]
    exact aligned_add_four hpc
  | branches _ h =>
    refine ⟨?_, ?_, h.aligned hpc⟩ <;> rw [h.rest] <;> assumption
  | barrier | down | gate | back => exact ⟨hwf, hspace, wordTarget_aligned _⟩
  | halt => exact ⟨hwf, hspace, hpc⟩

/-- Settles O49: a step leaves the state, takes an exception or completes an instruction, and each keeps the
invariant. -/
theorem stepKeepsInvariant : Obligations.StepKeepsInvariant := by
  intro s t hs h
  have ⟨hwf, hspace, _⟩ := hs
  obtain rfl | ⟨n, ht | ⟨i, hi⟩⟩ := step_effect h
  · exact hs
  · exact ht.inv hwf hspace
  · exact hi.inv hs

/-! ### The frames -/

/-- Settles O53, by the effect of the instruction: only that of a store names memory. -/
theorem onlyStoresWriteMemory : Obligations.OnlyStoresWriteMemory := by
  intro i s t hstore hi
  cases effect_of_completes hi with
  | computes _ h | branches _ h =>
    rw [h.rest]
    exact ⟨rfl, fun _ => rfl⟩
  | stores hs => simp [hs] at hstore
  | barrier rd rc rb => exact ⟨rfl, fun h => absurd rfl (h rd rc rb)⟩
  | down | gate | back | halt => exact ⟨rfl, fun _ => rfl⟩

/-- Settles O54, by the effect of the instruction. -/
theorem registerFrame : Obligations.RegisterFrame := by
  intro i s t hi
  change s.KeepsRegsBut t (destination i)
  cases effect_of_completes hi with
  | computes _ h | stores _ h | branches _ h => exact h.regs
  | barrier | down | halt => exact .of_eq rfl
  | gate => exact .setReg64 rfl rfl
  | back => exact .setReg rfl rfl

/-- An exception leaves `ExceptionBase`, `Thread` and the parameters as they were. -/
theorem State.Trapped.system {s t : State} (h : s.Trapped t) :
    t.exceptionBase = s.exceptionBase ∧ t.thread = s.thread ∧ t.params = s.params := by
  obtain ⟨e, he⟩ := h
  obtain ⟨-, rfl⟩ := State.raiseExn_eq_next he
  rw [State.enterTrap_frame]
  exact ⟨rfl, rfl, rfl⟩

/-- No instruction changes `ExceptionBase`, `Thread` or a parameter. -/
theorem Effect.system {i : Instr} {s t : State} (h : Effect s i t) :
    t.exceptionBase = s.exceptionBase ∧ t.thread = s.thread ∧ t.params = s.params := by
  cases h with
  | computes _ h | stores _ h | branches _ h =>
    rw [h.rest]
    exact ⟨rfl, rfl, rfl⟩
  | barrier | down | gate | back | halt => exact ⟨rfl, rfl, rfl⟩

/-- B.BACK alone writes `ExceptionState`, and writes 0. -/
theorem Effect.exceptionState {i : Instr} {s t : State} (h : Effect s i t)
    (hne : t.exceptionState ≠ s.exceptionState) : (∃ rd rc rb, i = .bBack rd rc rb) ∧ t.exceptionState = 0 := by
  cases h with
  | computes _ h | stores _ h | branches _ h =>
    rw [h.rest] at hne
    exact absurd rfl hne
  | barrier | down | gate | halt => exact absurd rfl hne
  | back rd rc rb => exact ⟨⟨rd, rc, rb, rfl⟩, rfl⟩

/-- B.HALT alone halts the machine, and nothing restarts it. -/
theorem Effect.halted {i : Instr} {s t : State} (h : Effect s i t) (hne : t.halted ≠ s.halted) :
    (∃ rd rc rb, i = .bHalt rd rc rb) ∧ t.halted = true := by
  cases h with
  | computes _ h | stores _ h | branches _ h =>
    rw [h.rest] at hne
    exact absurd rfl hne
  | barrier | down | gate | back => exact absurd rfl hne
  | halt rd rc rb => exact ⟨⟨rd, rc, rb, rfl⟩, rfl⟩

/-- Settles O56, by the frames of trap entry and of every effect. -/
theorem systemStateFrame : Obligations.SystemStateFrame := by
  refine ⟨fun s t h => ?_, fun i s t hi => ?_⟩
  · obtain rfl | ⟨n, ht | ⟨i, hi⟩⟩ := step_effect h
    · exact ⟨rfl, rfl, rfl⟩
    · exact ht.system
    · exact hi.system
  · have he := effect_of_completes hi
    exact ⟨he.exceptionState, he.halted⟩

/-- Settles O57, by the effect of the instruction: `pc + 4` where it goes on or stores, `pc` where it halts. -/
theorem nextInstruction : Obligations.NextInstruction := by
  intro i s t hpc hi
  cases effect_of_completes hi with
  | computes hhalt h =>
    rw [h.rest]
    exact ⟨fun ⟨rd, rc, rb, e⟩ => absurd e (hhalt rd rc rb), fun _ => rfl⟩
  | stores hstore h =>
    rw [h.rest]
    refine ⟨?_, fun _ => rfl⟩
    rintro ⟨rd, rc, rb, rfl⟩
    cases hstore
  | branches hpc' => simp [hpc'] at hpc
  | barrier | down | gate | back => cases hpc
  | halt rd rc rb => exact ⟨fun _ => rfl, fun h => absurd rfl (h rd rc rb)⟩

end Sys2Proof.Machine
end

section
/-! The family 20_memory: what a fetch observes, effective addresses and alignment, the shared body that each load and
store is, and what those bodies answer when an access is misaligned, faults, runs past the end, or maps. -/

namespace Sys2Proof.Machine

open Sys2Proof Sys2Proof.Claims

/-! ### What a fetch observes -/

/-- What a fetch may observe of an address after a store of one byte. -/
theorem State.staleAt_storeByte (s : State) (a b : Nat) (v : Byte) :
    (s.storeByte a v).staleAt b = if b = a then s.mem.read a :: s.staleAt a else s.staleAt b := by
  by_cases h : b = a
  · subst h
    simp [State.staleAt]
  · simp [State.staleAt, h, Ne.symm h]

/-- With no older contents on record, a fetch observes the present ones. -/
theorem State.fetchByte_of_fresh {s : State} {a : Nat} (h : s.staleAt a = []) (k : Nat) :
    s.fetchByte k a = s.mem.read a := by
  simp [State.fetchByte, h]

/-- A fetch observes the present contents of a byte or some on record: the choice among them is taken modulo their
number. -/
theorem State.fetchByte_mem (s : State) (k a : Nat) : s.fetchByte k a ∈ s.mem.read a :: s.staleAt a := by
  unfold State.fetchByte
  split
  · exact List.mem_cons_self
  · have hlt : Config.fetchChoice (s.draws + k) % ((s.staleAt a).length + 1) < (s.mem.read a :: s.staleAt a).length :=
      Nat.mod_lt _ (Nat.succ_pos _)
    rw [List.getD_eq_getElem _ _ hlt]
    exact List.getElem_mem hlt

/-- The bytes a fetch observes, by their places. -/
theorem State.fetchBytes_map_range (s : State) (k n : Nat) (pa : Nat → Nat) :
    s.fetchBytes k ((List.range n).map pa) = (List.range n).map fun j => s.fetchByte (k + j) (pa j) := by
  induction n generalizing k pa with
  | zero => rfl
  | succ n ih =>
    rw [List.range_succ_eq_map, List.map_cons, List.map_map, State.fetchBytes, ih, List.map_cons, List.map_map]
    congr 1
    refine List.map_congr_left fun j _ => ?_
    simp only [Function.comp, Nat.succ_eq_add_one, Nat.add_assoc, Nat.add_comm 1]

/-- A fetch whose four bytes map answers a word made of the bytes observed. -/
theorem State.fetch_of_maps {s : State} {pa : Nat → Nat} (h : s.Maps .execute s.pc s.pc 4 pa) :
    ∃ w t, s.fetch = .ok (w, t) ∧ ∀ k < 4, byteAt s.params.fetchOrder 32 w k = s.fetchByte k (pa k) := by
  refine ⟨_, _, by rw [State.fetch, State.span_of_maps h], ?_⟩
  rw [State.fetchBytes_map_range]
  simpa using byteAt_assemble s.params.fetchOrder (size := 32) (by decide) fun j => s.fetchByte (0 + j) (pa j)

/-- Settles O7: the word fetched is made of the bytes observed, each of them the present contents or on record. -/
theorem fetchSeesOldOrNew : Obligations.FetchSeesOldOrNew := by
  refine ⟨fun s pa h => ?_, State.staleAt_storeByte⟩
  obtain ⟨w, t, hf, hw⟩ := State.fetch_of_maps h
  refine ⟨w, t, hf, State.fetch_eq_ok hf, fun k hk => ?_, fun hstale k hk => ?_⟩
  · rw [hw k hk]
    exact List.mem_cons.1 (s.fetchByte_mem k (pa k))
  · have hfresh : s.staleAt (pa k) = [] := by simp [State.staleAt, hstale]
    rw [hw k hk, State.fetchByte_of_fresh hfresh]

/-! ### Effective addresses -/

/-- The sizes of an access: 8, 16, 32, 64 and 128 bits. -/
def IsAccessSize (size : Nat) : Prop := ∃ l, 3 ≤ l ∧ l ≤ 7 ∧ size = 2 ^ l

/-- The bytes of an access of `2 ^ l` bits. -/
theorem two_pow_div_eight {l : Nat} (h3 : 3 ≤ l) : 2 ^ l / 8 = 2 ^ (l - 3) := Nat.pow_div h3 (by decide)

/-- An access is of whole bytes. -/
theorem IsAccessSize.dvd {size : Nat} (h : IsAccessSize size) : 8 ∣ size := by
  obtain ⟨l, h3, -, rfl⟩ := h
  exact Nat.pow_dvd_pow 2 h3

/-- No access is wider than a register. -/
theorem IsAccessSize.le {size : Nat} (h : IsAccessSize size) : size ≤ 128 := by
  obtain ⟨l, -, h7, rfl⟩ := h
  exact Nat.pow_le_pow_right (by decide) h7

/-- The bytes of an access divide the 2^64 bytes that have an address. -/
theorem IsAccessSize.bytes_dvd {size : Nat} (h : IsAccessSize size) : size / 8 ∣ 2 ^ 64 := by
  obtain ⟨l, h3, h7, rfl⟩ := h
  rw [two_pow_div_eight h3]
  exact Nat.pow_dvd_pow 2 (by omega)

/-- Either form adds a displacement, scaled by the bytes of the access, to the base. -/
theorem address_eq_add_mul (p : Place) (s : State) (rc : Reg) (size : Nat) :
    ∃ b : Octlet, p.address s rc size = s.lo rc + b * BitVec.ofNat 64 (size / 8) := by
  cases p with
  | indexed rb => exact ⟨s.lo rb, rfl⟩
  | offset o => exact ⟨o.signExtend 64, rfl⟩

/-- A base plus a scaled displacement, as a sum modulo 2^64. -/
theorem toNat_add_mul_ofNat (c b : Octlet) (n : Nat) :
    (c + b * BitVec.ofNat 64 n).toNat = (c.toNat + b.toNat * n) % 2 ^ 64 := by
  simp only [BitVec.toNat_add, BitVec.toNat_mul, BitVec.toNat_ofNat, Nat.mul_mod_mod, Nat.add_mod_mod]

/-- The low bits of a displacement with zeros appended are the displacement scaled. -/
theorem setWidth_append_zero (b : Octlet) {l : Nat} (h3 : 3 ≤ l) (h7 : l ≤ 7) :
    (b.setWidth (67 - l) ++ 0#(l - 3)).setWidth 64 = b * BitVec.ofNat 64 (2 ^ (l - 3)) := by
  have hsplit : 2 ^ 64 = 2 ^ (67 - l) * 2 ^ (l - 3) := by
    rw [← Nat.pow_add]
    congr 1
    omega
  apply BitVec.eq_of_toNat_eq
  simp only [BitVec.toNat_mul, BitVec.toNat_ofNat, BitVec.toNat_setWidth, BitVec.toNat_append, Nat.shiftLeft_eq,
    Nat.zero_mod, Nat.or_zero, Nat.mul_mod_mod]
  rw [← Nat.mul_mod_mul_right, ← hsplit, Nat.mod_mod]

/-- A scaled sign-extended offset, as a signed number modulo 2^64. -/
theorem signExtend_mul_ofNat (o : BitVec 12) (n : Nat) :
    o.signExtend 64 * BitVec.ofNat 64 n = BitVec.ofInt 64 (o.toInt * n) := by
  rw [BitVec.ofInt_mul, BitVec.ofInt_natCast, ← BitVec.toInt_signExtend_of_le (v := 64) (by decide),
    BitVec.ofInt_toInt]

/-- An offset with zeros appended, sign-extended, is the sign-extended offset scaled. -/
theorem signExtend_append_zero (o : BitVec 12) {l : Nat} (h7 : l ≤ 7) :
    (o ++ 0#(l - 3)).signExtend 64 = o.signExtend 64 * BitVec.ofNat 64 (2 ^ (l - 3)) := by
  rw [signExtend_mul_ofNat, Nat.cast_pow, Nat.cast_ofNat, Int.mul_comm, ← BitVec.toInt_append_zero,
    ← BitVec.toInt_signExtend_of_le (v := 64) (by omega), BitVec.ofInt_toInt]

/-- Settles O8: each form adds a scaled displacement, and to scale is to append zeros. -/
theorem effectiveAddress : Obligations.EffectiveAddress := by
  intro s rc rb o l h3 h7
  rw [State.indexedAddress, State.offsetAddress, two_pow_div_eight h3]
  refine ⟨by rw [setWidth_append_zero _ h3 h7], toNat_add_mul_ofNat _ _ _, by rw [signExtend_append_zero o h7], ?_⟩
  rw [signExtend_mul_ofNat, BitVec.ofInt_add, BitVec.ofInt_toInt, Nat.cast_pow, Nat.cast_ofNat]

/-! ### Alignment -/

/-- The alignment test, on the sizes of an access. -/
theorem misaligned_eq_false_iff {s : State} {rc : Reg} {size : Nat} (h : IsAccessSize size) :
    misaligned (s.lo rc) size = false ↔ BaseAligned s rc size := by
  obtain ⟨l, h3, h7, rfl⟩ := h
  simp [misaligned_two_pow h3 h7, BaseAligned]

/-- A misaligned base fails the test. -/
theorem misaligned_of_not_baseAligned {s : State} {rc : Reg} {size : Nat} (h : IsAccessSize size)
    (hb : ¬BaseAligned s rc size) : misaligned (s.lo rc) size = true := by
  rw [← misaligned_eq_false_iff h] at hb
  exact Bool.eq_true_of_not_eq_false hb

/-- The alignment that the flag of a form names. -/
def Alignment.ofFlag (aligned : Bool) : Alignment := if aligned then .aligned else .unaligned

/-- A form accepts its base if that is aligned, or need not be. -/
theorem rejects_ofFlag_of_accepted {s : State} {rc : Reg} {size : Nat} {aligned : Bool} (h : IsAccessSize size)
    (hb : aligned = true → BaseAligned s rc size) : (Alignment.ofFlag aligned).rejects (s.lo rc) size = false := by
  cases aligned with
  | false => rfl
  | true => exact (misaligned_eq_false_iff h).2 (hb rfl)

/-- An access from an aligned base lies at an aligned address. -/
theorem address_mod_of_baseAligned {s : State} {rc : Reg} {size : Nat} (h : IsAccessSize size) (p : Place)
    (hb : BaseAligned s rc size) : (p.address s rc size).toNat % (size / 8) = 0 := by
  obtain ⟨b, hva⟩ := address_eq_add_mul p s rc size
  rw [hva, toNat_add_mul_ofNat, Nat.mod_mod_of_dvd _ h.bytes_dvd, Nat.add_mul_mod_self_right]
  exact hb

/-- An access from an aligned base does not run past the last address: both its address and 2^64 are multiples of its
length. -/
theorem address_add_le_of_baseAligned {s : State} {rc : Reg} {size : Nat} (h : IsAccessSize size) (p : Place)
    (hb : BaseAligned s rc size) : (p.address s rc size).toNat + size / 8 ≤ 2 ^ 64 := by
  have hva : (p.address s rc size).toNat ≡ 2 ^ 64 [MOD size / 8] :=
    (address_mod_of_baseAligned h p hb).trans (Nat.mod_eq_zero_of_dvd h.bytes_dvd).symm
  exact hva.add_le_of_lt (p.address s rc size).isLt

/-! ### The shared body of each form -/

/-- The extension that the flag of a load names (40_load.md rule R203). -/
def Extension.ofFlag (signed : Bool) : Extension := if signed then .signed else .unsigned

/-- Every load is the shared body at the parameters of its form. -/
theorem exec_loadForm {f : LoadForm} (hf : f ∈ loadForms) (rd rc : Reg) (p : Place) (s : State) :
    exec (f.instr rd rc p) s =
      load (.ofFlag f.signed) (.ofFlag f.aligned) f.size f.order rd rc (p.address s rc f.size) s := by
  unfold loadForms at hf
  fin_cases hf <;> cases p <;> rfl

/-- Every plain store is the shared body at the parameters of its form. -/
theorem exec_storeForm {f : StoreForm} (hf : f ∈ storeForms) (rd rc : Reg) (p : Place) (s : State) :
    exec (f.instr rd rc p) s = store (.ofFlag f.aligned) f.size f.order rd rc (p.address s rc f.size) s := by
  unfold storeForms at hf
  fin_cases hf <;> cases p <;> rfl

/-- Every multiplex store is the shared body in the byte order of its form. -/
theorem exec_multiplexForm {f : StoreForm} (hf : f ∈ multiplexForms) (rd rc : Reg) (p : Place) (s : State) :
    exec (f.instr rd rc p) s = storeMultiplex f.order rd rc (p.address s rc 64) s := by
  unfold multiplexForms at hf
  fin_cases hf <;> cases p <;> rfl

/-- Every add swap is the shared body in the byte order of its form. -/
theorem exec_addSwapForm {f : StoreForm} (hf : f ∈ addSwapForms) (rd rc : Reg) (p : Place) (s : State) :
    exec (f.instr rd rc p) s = addSwap f.order rd rc (p.address s rc 64) s := by
  unfold addSwapForms at hf
  fin_cases hf <;> cases p <;> rfl

/-- Every compare swap is the shared body in the byte order of its form. -/
theorem exec_compareSwapForm {f : StoreForm} (hf : f ∈ compareSwapForms) (rd rc : Reg) (p : Place) (s : State) :
    exec (f.instr rd rc p) s = compareSwap f.order rd rc (p.address s rc 64) s := by
  unfold compareSwapForms at hf
  fin_cases hf <;> cases p <;> rfl

/-- Every multiplex swap is the shared body in the byte order of its form. -/
theorem exec_multiplexSwapForm {f : StoreForm} (hf : f ∈ multiplexSwapForms) (rd rc : Reg) (p : Place) (s : State) :
    exec (f.instr rd rc p) s = multiplexSwap f.order rd rc (p.address s rc 64) s := by
  unfold multiplexSwapForms at hf
  fin_cases hf <;> cases p <;> rfl

/-- Every double compare swap is the shared body in the byte order of its form. -/
theorem exec_doubleSwapForm {f : (Reg → Reg → Reg → Instr) × ByteOrder} (hf : f ∈ doubleSwapForms) (rd rc rb : Reg)
    (s : State) : exec (f.1 rd rc rb) s = doubleCompareSwap f.2 rd rc rb s := by
  unfold doubleSwapForms at hf
  fin_cases hf <;> rfl

/-- The stores that are a `lock` block over one octlet: the multiplex stores and the swaps. -/
def lockedForms : List StoreForm := multiplexForms ++ addSwapForms ++ compareSwapForms ++ multiplexSwapForms

/-- A store of one address is a plain store or a `lock` block. -/
theorem mem_storeForms_or_lockedForms {f : StoreForm}
    (hf : f ∈ storeForms ++ multiplexForms ++ addSwapForms ++ compareSwapForms ++ multiplexSwapForms) :
    f ∈ storeForms ∨ f ∈ lockedForms := by
  simpa [lockedForms, or_assoc] using hf

/-- Every multiplex store and every swap is a `lock` block over the octlet at its address. -/
theorem exec_lockedForm {f : StoreForm} (hf : f ∈ lockedForms) (rd rc : Reg) (p : Place) (s : State) :
    ∃ update finish, exec (f.instr rd rc p) s = lockedOctlet f.order rc (p.address s rc 64) s update finish := by
  simp only [lockedForms, List.mem_append] at hf
  obtain ((hf | hf) | hf) | hf := hf
  · exact ⟨_, _, exec_multiplexForm hf rd rc p s⟩
  · exact ⟨_, _, exec_addSwapForm hf rd rc p s⟩
  · exact ⟨_, _, exec_compareSwapForm hf rd rc p s⟩
  · exact ⟨_, _, exec_multiplexSwapForm hf rd rc p s⟩

/-- A load accesses 8, 16, 32, 64 or 128 bits. -/
theorem loadForms_size {f : LoadForm} (hf : f ∈ loadForms) : IsAccessSize f.size := by
  have h : ∀ n ∈ loadForms.map (·.size), ∃ l ∈ Finset.Icc 3 7, n = 2 ^ l := by decide
  obtain ⟨l, hl, e⟩ := h _ (List.mem_map_of_mem hf)
  exact ⟨l, (Finset.mem_Icc.1 hl).1, (Finset.mem_Icc.1 hl).2, e⟩

/-- A plain store accesses 8, 16, 32, 64 or 128 bits. -/
theorem storeForms_size {f : StoreForm} (hf : f ∈ storeForms) : IsAccessSize f.size := by
  have h : ∀ n ∈ storeForms.map (·.size), ∃ l ∈ Finset.Icc 3 7, n = 2 ^ l := by decide
  obtain ⟨l, hl, e⟩ := h _ (List.mem_map_of_mem hf)
  exact ⟨l, (Finset.mem_Icc.1 hl).1, (Finset.mem_Icc.1 hl).2, e⟩

/-- An octlet is the size of an access. -/
theorem isAccessSize_octlet : IsAccessSize 64 := ⟨6, by decide, by decide, rfl⟩

/-- A `lock` block tests its base and accesses an octlet. -/
theorem lockedForms_aligned_size {f : StoreForm} (hf : f ∈ lockedForms) : f.aligned = true ∧ f.size = 64 := by
  have h : ∀ x ∈ lockedForms.map (fun f => (f.aligned, f.size)), x = (true, 64) := by decide
  exact Prod.ext_iff.1 (h _ (List.mem_map_of_mem hf))

/-! ### Accesses that answer no value -/

/-- What is raised in a state is raised. -/
theorem isRaised_raiseExn (s : State) (e : Exn) : IsRaised (s.raiseExn e) s e :=
  ⟨fun h => State.raiseExn_final h e, fun h => State.raiseExn_continues h e⟩

/-- The first byte that does not translate decides the exception of an access. -/
theorem State.span_of_translationRaises {s : State} {kind : AccessKind} {ba va : Octlet} {n : Nat} {e : AccessFault}
    (h : TranslationRaises s kind ba va n e) : s.span kind ba va n = .raised e := by
  obtain ⟨hle, k, hk, hbefore, he⟩ := h
  rw [State.span, if_pos hle, State.translateBytes_raised hk hbefore he]

/-- An access that would run past the last address is refused. -/
theorem State.span_pastEnd (s : State) (kind : AccessKind) (ba : Octlet) {va : Octlet} {n : Nat}
    (h : 2 ^ 64 < va.toNat + n) : s.span kind ba va n = .refused .accessPastEnd := by
  rw [State.span, if_neg (not_le.2 h)]

section
variable {s : State} {kind : AccessKind} {ba va : Octlet} {size : Nat}

theorem State.loadMemory_of_span_raised {e : AccessFault} (h : s.span kind ba va (size / 8) = .raised e)
    (ord : ByteOrder) : s.loadMemory kind ba va size ord = .raised e := by
  rw [State.loadMemory, h]

theorem State.loadMemory_of_span_refused {r : Refusal} (h : s.span kind ba va (size / 8) = .refused r)
    (ord : ByteOrder) : s.loadMemory kind ba va size ord = .refused r := by
  rw [State.loadMemory, h]

theorem State.storeMemory_of_span_raised {e : AccessFault} (h : s.span .write ba va (size / 8) = .raised e)
    (ord : ByteOrder) (data : BitVec size) : s.storeMemory ba va size ord data = .raised e := by
  rw [State.storeMemory, h]

theorem State.storeMemory_of_span_refused {r : Refusal} (h : s.span .write ba va (size / 8) = .refused r)
    (ord : ByteOrder) (data : BitVec size) : s.storeMemory ba va size ord data = .refused r := by
  rw [State.storeMemory, h]

end

/-! ### The shared bodies, by the alignment test -/

section
variable {ext : Extension} {al : Alignment} {size : Nat} {ord : ByteOrder} {rd rc rb : Reg} {va : Octlet} {s : State}
variable {update : Octlet → Option Octlet} {finish : Octlet → State → State}

theorem load_of_rejects (h : al.rejects (s.lo rc) size = true) :
    load ext al size ord rd rc va s = s.raiseExn .badAddress := by
  rw [load, if_pos h]

theorem load_of_accepts (h : al.rejects (s.lo rc) size = false) :
    load ext al size ord rd rc va s =
      (s.loadMemory .read (s.lo rc) va size ord).andThen s fun m => .next (s.setReg rd (ext.extend m)).advance := by
  rw [load, if_neg (by simp [h])]

theorem store_of_rejects (h : al.rejects (s.lo rc) size = true) :
    store al size ord rd rc va s = s.raiseExn .badAddress := by
  rw [store, if_pos h]

theorem store_of_accepts (h : al.rejects (s.lo rc) size = false) :
    store al size ord rd rc va s =
      (s.storeMemory (s.lo rc) va size ord ((s.reg rd).setWidth size)).andThen s fun t => .next t.advance := by
  rw [store, if_neg (by simp [h])]

theorem lockedOctlet_of_misaligned (h : misaligned (s.lo rc) 64 = true) :
    lockedOctlet ord rc va s update finish = s.raiseExn .badAddress := by
  rw [lockedOctlet, if_pos h]

/-- A `lock` block takes the exception of the load at its head, which needs write permission. -/
theorem lockedOctlet_of_raised {e : AccessFault} (h : misaligned (s.lo rc) 64 = false)
    (he : s.span .write (s.lo rc) va 8 = .raised e) :
    lockedOctlet ord rc va s update finish = s.raiseExn (.access e) := by
  rw [lockedOctlet, if_neg (by simp [h]), State.loadMemory_of_span_raised he, Access.andThen_raised]

theorem doubleCompareSwap_of_misaligned (h : misaligned (s.lo rc) 64 = true ∨ misaligned (s.lo rb) 64 = true) :
    doubleCompareSwap ord rd rc rb s = s.raiseExn .badAddress := by
  rw [doubleCompareSwap, if_pos (by simpa using h)]

end

/-- Settles O11: the alignment test comes first in every shared body. -/
theorem misalignedBaseRaises : Obligations.MisalignedBaseRaises := by
  refine ⟨fun f hf hal rd rc p s hb => ?_, fun f hf hal rd rc p s hb => ?_, fun f hf rd rc rb s hb => ?_⟩
  · have hmis := misaligned_of_not_baseAligned (loadForms_size hf) hb
    rw [Raises, exec_loadForm hf, hal, load_of_rejects (al := .ofFlag true) hmis]
    exact isRaised_raiseExn s badAddress
  · obtain hf | hf := mem_storeForms_or_lockedForms hf
    · have hmis := misaligned_of_not_baseAligned (storeForms_size hf) hb
      rw [Raises, exec_storeForm hf, hal, store_of_rejects (al := .ofFlag true) hmis]
      exact isRaised_raiseExn s badAddress
    · obtain ⟨update, finish, hexec⟩ := exec_lockedForm hf rd rc p s
      rw [(lockedForms_aligned_size hf).2] at hb
      rw [Raises, hexec, lockedOctlet_of_misaligned (misaligned_of_not_baseAligned isAccessSize_octlet hb)]
      exact isRaised_raiseExn s badAddress
  · have hmis := hb.imp (misaligned_of_not_baseAligned isAccessSize_octlet)
      (misaligned_of_not_baseAligned isAccessSize_octlet)
    rw [Raises, exec_doubleSwapForm hf, doubleCompareSwap_of_misaligned hmis]
    exact isRaised_raiseExn s badAddress

/-- Settles O12: past the alignment test, every shared body begins with its access. -/
theorem accessExceptionsTaken : Obligations.AccessExceptionsTaken := by
  refine ⟨fun f hf rd rc p s e hal he => ?_, fun f hf rd rc p s e hal he => ?_⟩
  · have hacc := rejects_ofFlag_of_accepted (loadForms_size hf) hal
    rw [Raises, exec_loadForm hf, load_of_accepts hacc,
      State.loadMemory_of_span_raised (State.span_of_translationRaises he)]
    exact isRaised_raiseExn s (.access e)
  · obtain hf | hf := mem_storeForms_or_lockedForms hf
    · have hacc := rejects_ofFlag_of_accepted (storeForms_size hf) hal
      rw [Raises, exec_storeForm hf, store_of_accepts hacc,
        State.storeMemory_of_span_raised (State.span_of_translationRaises he)]
      exact isRaised_raiseExn s (.access e)
    · obtain ⟨update, finish, hexec⟩ := exec_lockedForm hf rd rc p s
      obtain ⟨haligned, hsize⟩ := lockedForms_aligned_size hf
      have hb := hal haligned
      rw [hsize] at hb he
      rw [Raises, hexec, lockedOctlet_of_raised ((misaligned_eq_false_iff isAccessSize_octlet).2 hb)
        (State.span_of_translationRaises he)]
      exact isRaised_raiseExn s (.access e)

/-- Settles O13: the length of an access is tested before any translation, and an aligned access passes. -/
theorem accessPastEndRefused : Obligations.AccessPastEndRefused := by
  refine ⟨fun f hf hal _ rd rc p s hend => ?_, fun f hf hal _ rd rc p s hend => ?_, fun s hend => ?_,
    fun rc p s l h3 h7 hb => address_add_le_of_baseAligned ⟨l, h3, h7, rfl⟩ p hb⟩
  · rw [exec_loadForm hf, hal, load_of_accepts (al := .ofFlag false) rfl,
      State.loadMemory_of_span_refused (s.span_pastEnd _ _ hend), Access.andThen_refused]
  · rw [exec_storeForm hf, hal, store_of_accepts (al := .ofFlag false) rfl,
      State.storeMemory_of_span_refused (s.span_pastEnd _ _ hend), Access.andThen_refused]
  · change s.returnFromException = _
    rw [State.returnFromException, State.loadMemory_of_span_refused (s.span_pastEnd _ _ hend), Access.andThen_refused]

/-! ### Accesses that map -/

/-- A load where memory holds a value writes the value, extended. -/
theorem load_of_holds {ext : Extension} {al : Alignment} {size : Nat} {ord : ByteOrder} {rc : Reg} {va : Octlet}
    {s : State} {pa : Nat → Nat} {v : BitVec size} (hsize : IsAccessSize size)
    (hacc : al.rejects (s.lo rc) size = false) (hm : s.Maps .read (s.lo rc) va (size / 8) pa)
    (hh : s.mem.Holds pa ord size v) (rd : Reg) :
    load ext al size ord rd rc va s = .next (s.setReg rd (ext.extend v)).advance := by
  rw [load_of_accepts hacc, State.loadMemory_of_holds hsize.dvd hm hh, Access.andThen_ok]

/-- A store to bytes that map answers a state whose memory holds the value there. -/
theorem store_of_maps {al : Alignment} {size : Nat} {rc : Reg} {va : Octlet} {s : State} {pa : Nat → Nat}
    (hacc : al.rejects (s.lo rc) size = false) (hm : s.Maps .write (s.lo rc) va (size / 8) pa) (ord : ByteOrder)
    (rd : Reg) :
    ∃ t, store al size ord rd rc va s = .next t ∧
      t = { s with pc := s.pc + 4#64, mem := t.mem, stale := t.stale } ∧
      s.mem.Stored t.mem pa ord size ((s.reg rd).setWidth size) := by
  obtain ⟨u, hu, hrest, hstored⟩ := State.storeMemory_of_maps (ord := ord) hm ((s.reg rd).setWidth size)
  refine ⟨u.advance, by rw [store_of_accepts hacc, hu, Access.andThen_ok], ?_, hstored⟩
  rw [hrest]
  rfl

/-- Where no two bytes of a store are one byte of memory, memory holds what was stored. -/
theorem Memory.Stored.holds {m m' : Memory} {pa : Nat → Nat} {ord : ByteOrder} {size : Nat} {v : BitVec size}
    (h : m.Stored m' pa ord size v) (hinj : ∀ j < size / 8, ∀ k < size / 8, pa j = pa k → j = k) :
    m'.Holds pa ord size v :=
  fun k hk => h.1 k hk fun j hj hkj e => hkj.ne (hinj j hj k hk e).symm

/-- Translation depends on the parameters and the level alone. -/
theorem State.Maps.congr {s t : State} {kind : AccessKind} {ba va : Octlet} {n : Nat} {pa : Nat → Nat}
    (h : s.Maps kind ba va n pa) (hparams : t.params = s.params) (hlevel : t.privilegeLevel = s.privilegeLevel) :
    t.Maps kind ba va n pa := by
  unfold State.Maps State.translate at h ⊢
  rwa [hparams, hlevel]

/-- An address depends on the registers alone. -/
theorem address_congr {s t : State} (h : t.regs = s.regs) (p : Place) (rc : Reg) (size : Nat) :
    p.address t rc size = p.address s rc size := by
  cases p <;>
    simp only [Place.address, State.indexedAddress, State.offsetAddress, State.lo, State.reg, h]

/-- The low bits of a value extended are the value. -/
theorem Extension.setWidth_extend {size : Nat} (h : size ≤ 128) (ext : Extension) (v : BitVec size) :
    (ext.extend v).setWidth size = v := by
  cases ext with
  | signed =>
    apply BitVec.eq_of_getLsbD_eq
    intro i hi
    rw [Extension.extend, BitVec.getLsbD_setWidth, BitVec.getLsbD_signExtend]
    simp [hi, hi.trans_le h]
  | unsigned => simp [Extension.extend, BitVec.setWidth_setWidth_of_le _ h]

/-- Settles O19: the store leaves the registers and the translation, so the load reaches the bytes stored. -/
theorem loadAfterStore : Obligations.LoadAfterStore := by
  intro f hf g hg hsize hord rd rc rq p s pa hal hw hr hinj
  have hsf := storeForms_size hf
  obtain ⟨haf, hag⟩ : (f.aligned = true → BaseAligned s rc f.size) ∧ (g.aligned = true → BaseAligned s rc f.size) := by
    obtain hb | ⟨hf', hg'⟩ := hal
    · exact ⟨fun _ => hb, fun _ => hb⟩
    · simp [hf', hg']
  obtain ⟨t, ht, hrest, hstored⟩ := store_of_maps (rejects_ofFlag_of_accepted hsf haf) hw f.order rd
  have hregs : t.regs = s.regs := by rw [hrest]
  have hlo : t.lo rc = s.lo rc := by simp only [State.lo, State.reg, hregs]
  have hread : t.Maps .read (t.lo rc) (p.address t rc f.size) (f.size / 8) pa := by
    rw [hlo, address_congr hregs]
    exact hr.congr (by rw [hrest]) (by rw [hrest])
  have hacc : (Alignment.ofFlag g.aligned).rejects (t.lo rc) f.size = false := by
    rw [hlo]
    exact rejects_ofFlag_of_accepted hsf hag
  have hload := load_of_holds (ext := .ofFlag g.signed) hsf hacc hread (hstored.holds hinj) rq
  refine ⟨t, _, (exec_storeForm hf rd rc p s).trans ht, ((exec_loadForm hg rq rc p t).trans ?_).trans hload, ?_⟩
  · rw [hsize, hord]
  · rw [State.reg_advance, State.reg_setReg_same, Extension.setWidth_extend hsf.le]

end Sys2Proof.Machine
end

section
/-! The family 30_encoding: the fields of a word, the nine formats of an instruction word, what the decoder makes of a word
under a valid map, and what a step does with the word it fetches. -/

namespace Sys2Proof

/-! ### Fields of a word -/

/-- A bit of a field read. -/
theorem getLsbD_fieldOf (w : Word) (lo n i : Nat) :
    (fieldOf w lo n).getLsbD i = (decide (i < n) && w.getLsbD (lo + i)) :=
  BitVec.getLsbD_extractLsb' ..

/-- A bit of a field placed. -/
theorem getLsbD_placed {n : Nat} (v : BitVec n) (lo i : Nat) :
    (placed v lo).getLsbD i = (decide (i < 32) && !decide (i < lo) && v.getLsbD (i - lo)) := by
  simp only [placed, BitVec.getLsbD_shiftLeft, BitVec.getLsbD_setWidth]
  by_cases hi : i < 32
  · simp [show i - lo < 32 by omega]
  · simp [hi]

/-- A field placed is read back. -/
theorem fieldOf_placed_same {n lo : Nat} (v : BitVec n) (h : lo + n ≤ 32) : fieldOf (placed v lo) lo n = v := by
  apply BitVec.eq_of_getLsbD_eq
  intro i hi
  rw [getLsbD_fieldOf, getLsbD_placed]
  simp [hi, show lo + i < 32 by omega]

/-- A field placed has no bit in a field beside it. -/
theorem fieldOf_placed_beside {n n' lo lo' : Nat} (v : BitVec n') (h : lo + n ≤ lo' ∨ lo' + n' ≤ lo) :
    fieldOf (placed v lo') lo n = 0#n := by
  apply BitVec.eq_of_getLsbD_eq
  intro i hi
  rw [getLsbD_fieldOf, getLsbD_placed, BitVec.getLsbD_zero]
  obtain h | h := h
  · simp [show lo + i < lo' by omega]
  · simp [BitVec.getLsbD_of_ge v (lo + i - lo') (by omega)]

/-- The bits of a field placed that a word has too. -/
theorem placed_and {n : Nat} (v : BitVec n) (lo : Nat) (w : Word) :
    placed v lo &&& w = placed (v &&& fieldOf w lo n) lo := by
  apply BitVec.eq_of_getLsbD_eq
  intro i hi
  rw [BitVec.getLsbD_and, getLsbD_placed, getLsbD_placed, BitVec.getLsbD_and, getLsbD_fieldOf]
  by_cases hlo : i < lo
  · simp [hlo]
  · by_cases hn : i - lo < n
    · simp [hn, show lo + (i - lo) = i by omega, Bool.and_assoc]
    · simp [BitVec.getLsbD_of_ge v (i - lo) (by omega)]

/-- Adding a field to a word adds its bits there. -/
theorem fieldOf_or_placed_same {n lo : Nat} (a : Word) (v : BitVec n) (h : lo + n ≤ 32) :
    fieldOf (a ||| placed v lo) lo n = fieldOf a lo n ||| v := by
  have hor : fieldOf (a ||| placed v lo) lo n = fieldOf a lo n ||| fieldOf (placed v lo) lo n := BitVec.extractLsb'_or
  rw [hor, fieldOf_placed_same v h]

/-- Adding a field to a word leaves the fields beside it. -/
theorem fieldOf_or_placed_beside {n n' lo lo' : Nat} (a : Word) (v : BitVec n') (h : lo + n ≤ lo' ∨ lo' + n' ≤ lo) :
    fieldOf (a ||| placed v lo') lo n = fieldOf a lo n := by
  have hor : fieldOf (a ||| placed v lo') lo n = fieldOf a lo n ||| fieldOf (placed v lo') lo n := BitVec.extractLsb'_or
  rw [hor, fieldOf_placed_beside v h, BitVec.or_zero]

/-- Adding a field to a word leaves the bits under a mask that the field lies outside. -/
theorem or_placed_and_mask {n lo : Nat} {mask : Word} (a : Word) (v : BitVec n) (h : fieldOf mask lo n = 0#n) :
    (a ||| placed v lo) &&& mask = a &&& mask := by
  rw [BitVec.and_or_distrib_right, placed_and, h]
  simp [placed]

/-- Bits of a word together with one of its fields are the word's bits under a larger mask. -/
theorem and_or_placed_fieldOf (w a : Word) (lo n : Nat) :
    w &&& a ||| placed (fieldOf w lo n) lo = w &&& (a ||| placed (BitVec.allOnes n) lo) := by
  have hp : placed (BitVec.allOnes n) lo &&& w = placed (fieldOf w lo n) lo := by rw [placed_and, BitVec.allOnes_and]
  rw [BitVec.and_or_distrib_left, BitVec.and_comm w (placed _ _), hp]

/-- A code within a mask. -/
theorem and_mask_of_and_not {c mask : Word} (h : c &&& ~~~mask = 0#32) : c &&& mask = c := by
  calc
    c &&& mask = c &&& mask ||| c &&& ~~~mask := by rw [h, BitVec.or_zero]
    _ = c := by rw [← BitVec.and_or_distrib_left, BitVec.or_not_self, BitVec.and_allOnes]

/-- A code within a mask has no bit in a field outside it. -/
theorem fieldOf_code {c mask : Word} {lo n : Nat} (hc : c &&& ~~~mask = 0#32) (hm : fieldOf mask lo n = 0#n) :
    fieldOf c lo n = 0#n := by
  have hand : fieldOf (c &&& mask) lo n = fieldOf c lo n &&& fieldOf mask lo n := BitVec.extractLsb'_and
  rw [← and_mask_of_and_not hc, hand, hm, BitVec.and_zero]

/-! ### The formats (30_encoding.md rule R133)

For each format: the operand fields and the code of a word give the word back, and any operands with any code that lies
within the row's mask make a word of the row. -/

/-- A word under a mask of all its bits. -/
theorem and_eq_self {full : Word} (w : Word) (h : full = BitVec.allOnes 32) : w &&& full = w := by
  rw [h, BitVec.and_allOnes]

theorem OpcodeMap.r3Word_fieldOf {m : OpcodeMap} {k : Nat} {w : Word} (hw : w &&& 0xFF00003F#32 = m.code k) :
    m.r3Word k (fieldOf w 18 6) (fieldOf w 12 6) (fieldOf w 6 6) = w := by
  rw [OpcodeMap.r3Word, ← hw]
  simp only [and_or_placed_fieldOf]
  exact and_eq_self w (by decide)

theorem OpcodeMap.r4Word_fieldOf {m : OpcodeMap} {k : Nat} {w : Word} (hw : w &&& 0xFF000000#32 = m.code k) :
    m.r4Word k (fieldOf w 18 6) (fieldOf w 12 6) (fieldOf w 6 6) (fieldOf w 0 6) = w := by
  rw [OpcodeMap.r4Word, ← hw]
  simp only [and_or_placed_fieldOf]
  exact and_eq_self w (by decide)

theorem OpcodeMap.comWord_fieldOf {m : OpcodeMap} {k : Nat} {w : Word} (hw : w &&& 0xFF000FFF#32 = m.code k) :
    m.comWord k (fieldOf w 18 6) (fieldOf w 12 6) = w := by
  rw [OpcodeMap.comWord, ← hw]
  simp only [and_or_placed_fieldOf]
  exact and_eq_self w (by decide)

theorem OpcodeMap.ri12Word_fieldOf {m : OpcodeMap} {k : Nat} {w : Word} (hw : w &&& 0xFF000000#32 = m.code k) :
    m.ri12Word k (fieldOf w 18 6) (fieldOf w 12 6) (fieldOf w 0 12) = w := by
  rw [OpcodeMap.ri12Word, ← hw]
  simp only [and_or_placed_fieldOf]
  exact and_eq_self w (by decide)

theorem OpcodeMap.ri18Word_fieldOf {m : OpcodeMap} {k : Nat} {w : Word} (hw : w &&& 0xFF000000#32 = m.code k) :
    m.ri18Word k (fieldOf w 18 6) (fieldOf w 0 18) = w := by
  rw [OpcodeMap.ri18Word, ← hw]
  simp only [and_or_placed_fieldOf]
  exact and_eq_self w (by decide)

theorem OpcodeMap.i24Word_fieldOf {m : OpcodeMap} {k : Nat} {w : Word} (hw : w &&& 0xFF000000#32 = m.code k) :
    m.i24Word k (fieldOf w 0 24) = w := by
  rw [OpcodeMap.i24Word, ← hw]
  simp only [and_or_placed_fieldOf]
  exact and_eq_self w (by decide)

theorem OpcodeMap.shaddWord_fieldOf {m : OpcodeMap} {k : Nat} {w : Word} (hw : w &&& 0xFF00003C#32 = m.code k) :
    m.shaddWord k (fieldOf w 18 6) (fieldOf w 12 6) (fieldOf w 6 6) ((fieldOf w 0 2).toNat + 1) = w := by
  rw [OpcodeMap.shaddWord, ← hw, Nat.add_sub_cancel, BitVec.ofNat_toNat, BitVec.setWidth_eq]
  simp only [and_or_placed_fieldOf]
  exact and_eq_self w (by decide)

theorem OpcodeMap.giWord_fieldOf {m : OpcodeMap} {k : Nat} {w : Word} (hw : w &&& 0xFF000C00#32 = m.code k) :
    m.giWord k (fieldOf w 18 6) (fieldOf w 12 6) (fieldOf w 0 10) = w := by
  rw [OpcodeMap.giWord, ← hw]
  simp only [and_or_placed_fieldOf]
  exact and_eq_self w (by decide)

theorem OpcodeMap.gcopyWord_fieldOf {m : OpcodeMap} {k : Nat} {w : Word} (hw : w &&& 0xFE030000#32 = m.code k) :
    m.gcopyWord k (fieldOf w 24 1) (fieldOf w 18 6) (fieldOf w 0 16) = w := by
  rw [OpcodeMap.gcopyWord, ← hw]
  simp only [and_or_placed_fieldOf]
  exact and_eq_self w (by decide)

/-- With any code that lies within its mask, the row has a word that stands for the instruction. -/
def Row.Makes (r : Row) (i : Instr) : Prop :=
  ∀ c : Word, c &&& ~~~r.mask = 0#32 → ∃ w, w &&& r.mask = c ∧ r.build w = .instr i

theorem r3_makes {mk : BitVec 6 → BitVec 6 → BitVec 6 → Instr} {x y z : BitVec 6} :
    (r3 mk).Makes (mk x y z) := by
  intro c (hc : c &&& ~~~0xFF00003F#32 = 0#32)
  refine ⟨c ||| placed x 18 ||| placed y 12 ||| placed z 6, ?_, ?_⟩
  · simp (disch := decide) [r3, or_placed_and_mask, and_mask_of_and_not hc]
  · simp (disch := decide) [r3, fieldOf_or_placed_same, fieldOf_or_placed_beside, fieldOf_code hc]

theorem r4_makes {mk : Reg → Reg → Reg → Reg → Instr} {x y z u : Reg} :
    (r4 mk).Makes (mk x y z u) := by
  intro c (hc : c &&& ~~~0xFF000000#32 = 0#32)
  refine ⟨c ||| placed x 18 ||| placed y 12 ||| placed z 6 ||| placed u 0, ?_, ?_⟩
  · simp (disch := decide) [r4, or_placed_and_mask, and_mask_of_and_not hc]
  · simp (disch := decide) [r4, fieldOf_or_placed_same, fieldOf_or_placed_beside, fieldOf_code hc]

theorem com_makes {mk : Reg → Reg → Instr} {x y : Reg} :
    (com mk).Makes (mk x y) := by
  intro c (hc : c &&& ~~~0xFF000FFF#32 = 0#32)
  refine ⟨c ||| placed x 18 ||| placed y 12, ?_, ?_⟩
  · simp (disch := decide) [com, or_placed_and_mask, and_mask_of_and_not hc]
  · simp (disch := decide) [com, fieldOf_or_placed_same, fieldOf_or_placed_beside, fieldOf_code hc]

theorem ri12_makes {mk : BitVec 6 → BitVec 6 → BitVec 12 → Instr} {x y : BitVec 6} {v : BitVec 12} :
    (ri12 mk).Makes (mk x y v) := by
  intro c (hc : c &&& ~~~0xFF000000#32 = 0#32)
  refine ⟨c ||| placed x 18 ||| placed y 12 ||| placed v 0, ?_, ?_⟩
  · simp (disch := decide) [ri12, or_placed_and_mask, and_mask_of_and_not hc]
  · simp (disch := decide) [ri12, fieldOf_or_placed_same, fieldOf_or_placed_beside, fieldOf_code hc]

theorem ri18_makes {mk : Reg → BitVec 18 → Instr} {x : Reg} {v : BitVec 18} :
    (ri18 mk).Makes (mk x v) := by
  intro c (hc : c &&& ~~~0xFF000000#32 = 0#32)
  refine ⟨c ||| placed x 18 ||| placed v 0, ?_, ?_⟩
  · simp (disch := decide) [ri18, or_placed_and_mask, and_mask_of_and_not hc]
  · simp (disch := decide) [ri18, fieldOf_or_placed_same, fieldOf_or_placed_beside, fieldOf_code hc]

theorem i24_makes {mk : BitVec 24 → Instr} {v : BitVec 24} :
    (i24 mk).Makes (mk v) := by
  intro c (hc : c &&& ~~~0xFF000000#32 = 0#32)
  refine ⟨c ||| placed v 0, ?_, ?_⟩
  · simp (disch := decide) [i24, or_placed_and_mask, and_mask_of_and_not hc]
  · simp (disch := decide) [i24, fieldOf_or_placed_same, fieldOf_code hc]

theorem shadd_makes {mk : Reg → Reg → Reg → Nat → Instr} {x y z : Reg} {amount : Nat}
    (h : shiftAmountOk amount = true) : (shadd mk).Makes (mk x y z amount) := by
  intro c (hc : c &&& ~~~0xFF00003C#32 = 0#32)
  have hamount : (amount - 1) % 4 + 1 = amount := by
    simp only [shiftAmountOk, Bool.and_eq_true, decide_eq_true_eq] at h
    omega
  refine ⟨c ||| placed x 18 ||| placed y 12 ||| placed z 6 ||| placed (BitVec.ofNat 2 (amount - 1)) 0, ?_, ?_⟩
  · simp (disch := decide) [shadd, or_placed_and_mask, and_mask_of_and_not hc]
  · simp (disch := decide) [shadd, fieldOf_or_placed_same, fieldOf_or_placed_beside, fieldOf_code hc, hamount]

theorem gi_makes {size : Nat} {mk : Reg → Reg → BitVec 10 → Instr} {x y : Reg} {v : BitVec 10} :
    (gi size mk).Makes (mk x y v) := by
  intro c (hc : c &&& ~~~0xFF000C00#32 = 0#32)
  refine ⟨c ||| placed x 18 ||| placed y 12 ||| placed v 0, ?_, ?_⟩
  · simp (disch := decide) [gi, or_placed_and_mask, and_mask_of_and_not hc]
  · simp (disch := decide) [gi, fieldOf_or_placed_same, fieldOf_or_placed_beside, fieldOf_code hc]

theorem gcopy_makes {size : Nat} {mk : BitVec 1 → Reg → BitVec 16 → Instr} {sign : BitVec 1} {x : Reg}
    {v : BitVec 16} : (gcopy size mk).Makes (mk sign x v) := by
  intro c (hc : c &&& ~~~0xFE030000#32 = 0#32)
  refine ⟨c ||| placed sign 24 ||| placed x 18 ||| placed v 0, ?_, ?_⟩
  · simp (disch := decide) [gcopy, or_placed_and_mask, and_mask_of_and_not hc]
  · simp (disch := decide) [gcopy, fieldOf_or_placed_same, fieldOf_or_placed_beside, fieldOf_code hc]

/-- The encoder writes the instructions of the row with the `k`-th code, in the row's format. -/
inductive Row.Encodes (k : Nat) : Row → Prop where
  | r3 {mk : BitVec 6 → BitVec 6 → BitVec 6 → Instr}
      (h : ∀ m x y z, encodeWith m (mk x y z) = m.r3Word k x y z ∧ (mk x y z).WellFormed) : Encodes k (r3 mk)
  | r3Reserved : Encodes k r3Reserved
  | r4 {mk : Reg → Reg → Reg → Reg → Instr}
      (h : ∀ m x y z u, encodeWith m (mk x y z u) = m.r4Word k x y z u ∧ (mk x y z u).WellFormed) : Encodes k (r4 mk)
  | com {mk : Reg → Reg → Instr}
      (h : ∀ m x y, encodeWith m (mk x y) = m.comWord k x y ∧ (mk x y).WellFormed) : Encodes k (com mk)
  | ri12 {mk : BitVec 6 → BitVec 6 → BitVec 12 → Instr}
      (h : ∀ m x y v, encodeWith m (mk x y v) = m.ri12Word k x y v ∧ (mk x y v).WellFormed) : Encodes k (ri12 mk)
  | ri18 {mk : Reg → BitVec 18 → Instr}
      (h : ∀ m x v, encodeWith m (mk x v) = m.ri18Word k x v ∧ (mk x v).WellFormed) : Encodes k (ri18 mk)
  | i24 {mk : BitVec 24 → Instr}
      (h : ∀ m v, encodeWith m (mk v) = m.i24Word k v ∧ (mk v).WellFormed) : Encodes k (i24 mk)
  | shadd {mk : Reg → Reg → Reg → Nat → Instr}
      (h : ∀ m x y z amount, encodeWith m (mk x y z amount) = m.shaddWord k x y z amount ∧
        (mk x y z amount).wellFormed = shiftAmountOk amount) : Encodes k (shadd mk)
  | gi {size : Nat} {mk : Reg → Reg → BitVec 10 → Instr}
      (h : ∀ m x y v, encodeWith m (mk x y v) = m.giWord k x y v ∧ (mk x y v).WellFormed) : Encodes k (gi size mk)
  | gcopy {size : Nat} {mk : BitVec 1 → Reg → BitVec 16 → Instr}
      (h : ∀ m sign x v, encodeWith m (mk sign x v) = m.gcopyWord k sign x v ∧ (mk sign x v).WellFormed) :
      Encodes k (gcopy size mk)

/-- The counts that the two bits of `sh` stand for are those of a shift-and-add. -/
theorem shiftAmountOk_toNat_succ (sh : BitVec 2) : shiftAmountOk (sh.toNat + 1) = true := by
  have := sh.isLt
  simp only [shiftAmountOk, Bool.and_eq_true, decide_eq_true_eq]
  omega

/-- The instruction that a row makes of a word is well-formed, and its word is that word. -/
theorem Row.Encodes.encodeWith_of_build {m : OpcodeMap} {r : Row} {k : Nat} {w : Word} {i : Instr} (hr : r.Encodes k)
    (hw : w &&& r.mask = m.code k) (hi : r.build w = .instr i) : encodeWith m i = w ∧ i.WellFormed := by
  cases hr with
  | r3Reserved => cases hi
  | r3 h =>
    cases hi
    exact ⟨(h ..).1.trans (OpcodeMap.r3Word_fieldOf hw), (h m ..).2⟩
  | r4 h =>
    cases hi
    exact ⟨(h ..).1.trans (OpcodeMap.r4Word_fieldOf hw), (h m ..).2⟩
  | com h =>
    cases hi
    exact ⟨(h ..).1.trans (OpcodeMap.comWord_fieldOf hw), (h m ..).2⟩
  | ri12 h =>
    cases hi
    exact ⟨(h ..).1.trans (OpcodeMap.ri12Word_fieldOf hw), (h m ..).2⟩
  | ri18 h =>
    cases hi
    exact ⟨(h ..).1.trans (OpcodeMap.ri18Word_fieldOf hw), (h m ..).2⟩
  | i24 h =>
    cases hi
    exact ⟨(h ..).1.trans (OpcodeMap.i24Word_fieldOf hw), (h m ..).2⟩
  | shadd h =>
    cases hi
    exact ⟨(h ..).1.trans (OpcodeMap.shaddWord_fieldOf hw), (h m ..).2.trans (shiftAmountOk_toNat_succ _)⟩
  | gi h =>
    cases hi
    exact ⟨(h ..).1.trans (OpcodeMap.giWord_fieldOf hw), (h m ..).2⟩
  | gcopy h =>
    cases hi
    exact ⟨(h ..).1.trans (OpcodeMap.gcopyWord_fieldOf hw), (h m ..).2⟩

/-! ### The table of encodings

`Instr` and `rows` have one order, that of spec/opcode_table.json, so the row of an instruction is the one at the index
of its constructor. -/

/-- The rows are encoded with the codes from the `k`-th on. -/
def EncodedFrom : Nat → List Row → Prop
  | _, [] => True
  | k, r :: rs => r.Encodes k ∧ EncodedFrom (k + 1) rs

/-- A row of a list that is encoded. -/
theorem EncodedFrom.encodes {rs : List Row} {k j : Nat} {r : Row} (h : EncodedFrom k rs) (hr : rs[j]? = some r) :
    r.Encodes (k + j) := by
  induction rs generalizing k j with
  | nil => cases hr
  | cons r' rs ih =>
    cases j with
    | zero =>
      cases hr
      exact h.1
    | succ j =>
      have hrow := ih h.2 hr
      rwa [Nat.add_right_comm] at hrow

/-- Row by row: `constructor` finds the format, and what it asks for is the encoder's equation for the instruction. -/
theorem rows_encoded : EncodedFrom 0 rows := by
  repeat' constructor
  all_goals
    intros
    exact ⟨rfl, rfl⟩

/-- Every row is encoded with the code at its place. -/
theorem encodes_of_rows {k : Nat} {r : Row} (hr : rows[k]? = some r) : r.Encodes k := by
  simpa using rows_encoded.encodes hr

/-- Every well-formed instruction is made by the row at the index of its constructor. -/
theorem Instr.exists_row {i : Instr} (h : i.WellFormed) : ∃ r, rows[i.ctorIdx]? = some r ∧ r.Makes i := by
  cases i with
  | l8 | l16B | l16AB | l16L | l16AL | l32B | l32AB | l32L | l32AL | l64B | l64AB | l64L | l64AL | l128B
  | l128AB | l128L | l128AL | lU8 | lU16B | lU16AB | lU16L | lU16AL | lU32B | lU32AB | lU32L | lU32AL | lU64B
  | lU64AB | lU64L | lU64AL | s8 | s16B | s16AB | s16L | s16AL | s32B | s32AB | s32L | s32AL | s64B | s64AB
  | s64L | s64AL | s128B | s128AB | s128L | s128AL | sMux64AB | sMux64AL | aAdd | aAddO | aAddUO | aAnd | aAndn
  | aNand | aNor | aOr | aOrn | aXnor | aXor | aSetAndE | aSetAndNe | aSetE | aSetGe | aSetGeU | aSetL | aSetLU
  | aSetNe | aSub | aSubO | aSubUO | aShlI | aShlIO | aShlIUO | aShrI | aShrIU | b | bBack | bBarrier | bDown
  | bGate | bHalt | bHint | bLink | sDCS64AB | sDCS64AL | sAS64AB | sAS64AL | sCS64AB | sCS64AL | sMS64AB
  | sMS64AL | gAddH8C | gAddH8F | gAddH8N | gAddH8Z | gAddH16C | gAddH16F | gAddH16N | gAddH16Z | gAddH32C
  | gAddH32F | gAddH32N | gAddH32Z | gAddH64C | gAddH64F | gAddH64N | gAddH64Z | gAddH128C | gAddH128F
  | gAddH128N | gAddH128Z | gAddHU8C | gAddHU8F | gAddHU8N | gAddHU16C | gAddHU16F | gAddHU16N | gAddHU32C
  | gAddHU32F | gAddHU32N | gAddHU64C | gAddHU64F | gAddHU64N | gAddHU128C | gAddHU128F | gAddHU128N | gAaa8
  | gAaa16 | gAaa32 | gAaa64 | gAaa128 | gAsa8 | gAsa16 | gAsa32 | gAsa64 | gAsa128 =>
    exact ⟨_, rfl, r3_makes⟩
  | lI8 | lI16AB | lI16B | lI16AL | lI16L | lI32AB | lI32B | lI32AL | lI32L | lI64AB | lI64B | lI64AL | lI64L
  | lI128AB | lI128B | lI128AL | lI128L | lIU8 | lIU16AB | lIU16B | lIU16AL | lIU16L | lIU32AB | lIU32B
  | lIU32AL | lIU32L | lIU64AB | lIU64B | lIU64AL | lIU64L | sI8 | sI16AB | sI16B | sI16AL | sI16L | sI32AB
  | sI32B | sI32AL | sI32L | sI64AB | sI64B | sI64AL | sI64L | sI128AB | sI128B | sI128AL | sI128L | sMuxi64AB
  | sMuxi64AL | aAddI | aAddIO | aAddIUO | aAndI | aNandI | aNorI | aOrI | aXorI | aSetAndEI | aSetAndNeI
  | aSetEI | aSetGeI | aSetLI | aSetNeI | aSetGeIU | aSetLIU | aSubI | aSubIO | aSubIUO | bAndE | bAndNe | bE
  | bGe | bL | bNe | bGeU | bLU | bEF16 | bEF32 | bEF64 | bEF128 | bGeF16 | bGeF32 | bGeF64 | bGeF128 | bLF16
  | bLF32 | bLF64 | bLF128 | bLgF16 | bLgF32 | bLgF64 | bLgF128 | bIF32 | bNiF32 | bNvF32 | bVF32 | bHintI
  | sASI64AB | sASI64AL | sCSI64AB | sCSI64AL | sMSI64AB | sMSI64AL =>
    exact ⟨_, rfl, ri12_makes⟩
  | aRes | bI | bLinkI =>
    exact ⟨_, rfl, i24_makes⟩
  | aComAndE | aComAndNe | aComE | aComGe | aComGeU | aComL | aComLU | aComNe =>
    exact ⟨_, rfl, com_makes⟩
  | aCopyI =>
    exact ⟨_, rfl, ri18_makes⟩
  | aShlIAdd | aShlISub | gShlIAdd8 | gShlIAdd16 | gShlIAdd32 | gShlIAdd64 | gShlIAdd128 | gShlISub8
  | gShlISub16 | gShlISub32 | gShlISub64 | gShlISub128 =>
    exact ⟨_, rfl, shadd_makes h⟩
  | aMux =>
    exact ⟨_, rfl, r4_makes⟩
  | gCopyI16 | gCopyI32 | gCopyI64 | gCopyI128 =>
    exact ⟨_, rfl, gcopy_makes⟩
  | gAddI16 | gAddI16O | gAddI32 | gAddI32O | gAddI64 | gAddI64O | gAddI128 | gAddI128O | gAddIU16O | gAddIU32O
  | gAddIU64O | gAddIU128O | gAndI16 | gAndI32 | gAndI64 | gAndI128 | gNandI16 | gNandI32 | gNandI64
  | gNandI128 | gNorI16 | gNorI32 | gNorI64 | gNorI128 | gOrI16 | gOrI32 | gOrI64 | gOrI128 | gXorI16 | gXorI32
  | gXorI64 | gXorI128 | gSetAndEI16 | gSetAndEI32 | gSetAndEI64 | gSetAndEI128 | gSetAndNeI16 | gSetAndNeI32
  | gSetAndNeI64 | gSetAndNeI128 | gSetEI16 | gSetEI32 | gSetEI64 | gSetEI128 | gSetGeI16 | gSetGeI32
  | gSetGeI64 | gSetGeI128 | gSetGeIU16 | gSetGeIU32 | gSetGeIU64 | gSetGeIU128 | gSetLI16 | gSetLI32
  | gSetLI64 | gSetLI128 | gSetLIU16 | gSetLIU32 | gSetLIU64 | gSetLIU128 | gSetNeI16 | gSetNeI32 | gSetNeI64
  | gSetNeI128 | gSubI16 | gSubI16O | gSubI32 | gSubI32O | gSubI64 | gSubI64O | gSubI128 | gSubI128O
  | gSubIU16O | gSubIU32O | gSubIU64O | gSubIU128O =>
    exact ⟨_, rfl, gi_makes⟩

/-! ### Matching a word (30_encoding.md rule R134) -/

/-- What a valid map is. -/
theorem OpcodeMap.valid_iff {m : OpcodeMap} :
    m.valid = true ↔ m.codes.length = rows.length ∧ (∀ p ∈ rows.zip m.codes, p.1.admits p.2 = true) ∧
      allApart m.patterns = true := by
  simp only [OpcodeMap.valid, Bool.and_eq_true, beq_iff_eq, List.all_eq_true, and_assoc]

/-- An admitted code lies within the row's mask. -/
theorem Row.and_not_mask_of_admits {r : Row} {c : Word} (h : r.admits c = true) : c &&& ~~~r.mask = 0#32 := by
  simp only [Row.admits, Bool.and_eq_true, beq_iff_eq] at h
  exact h.1

/-- A code in the list is the one at its index. -/
theorem OpcodeMap.code_of_getElem? {m : OpcodeMap} {k : Nat} {c : Word} (h : m.codes[k]? = some c) : m.code k = c := by
  rw [OpcodeMap.code, List.getD_eq_getElem?_getD, h, Option.getD_some]

/-- A valid map has a code for every row, within the row's mask. -/
theorem OpcodeMap.code_of_valid {m : OpcodeMap} (hm : m.valid = true) {k : Nat} {r : Row} (hr : rows[k]? = some r) :
    m.codes[k]? = some (m.code k) ∧ m.code k &&& ~~~r.mask = 0#32 := by
  obtain ⟨hlen, hadmits, -⟩ := OpcodeMap.valid_iff.1 hm
  obtain ⟨hk, -⟩ := List.getElem?_eq_some_iff.1 hr
  have hc : m.codes[k]? = some (m.codes[k]'(hlen ▸ hk)) := List.getElem?_eq_getElem _
  rw [← OpcodeMap.code_of_getElem? hc] at hc
  have hmem : (r, m.code k) ∈ rows.zip m.codes :=
    List.mem_of_getElem? (List.getElem?_zip_eq_some.2 ⟨hr, hc⟩)
  exact ⟨hc, Row.and_not_mask_of_admits (hadmits _ hmem)⟩

/-- No word matches two encodings that are apart. -/
theorem not_apart_of_match {mask mask' w : Word} : apart (mask, w &&& mask) (mask', w &&& mask') = false := by
  have hzero : ((w &&& mask) ^^^ (w &&& mask')) &&& (mask &&& mask') = 0#32 := by
    apply BitVec.eq_of_getLsbD_eq
    intro i hi
    simp only [BitVec.getLsbD_and, BitVec.getLsbD_xor, BitVec.getLsbD_zero]
    cases w.getLsbD i <;> cases mask.getLsbD i <;> cases mask'.getLsbD i <;> rfl
  simp [apart, hzero]

/-- Where no word matches two encodings, a word that matches a row stands for what the row makes of it. -/
theorem matchRows_of_match {rs : List Row} {cs : List Word} (hap : allApart ((rs.map Row.mask).zip cs) = true)
    {k : Nat} {r : Row} {c : Word} {w : Word} (hr : rs[k]? = some r) (hc : cs[k]? = some c) (hw : w &&& r.mask = c) :
    matchRows rs cs w = r.build w := by
  induction rs generalizing cs k with
  | nil => cases hr
  | cons r' rs ih =>
    cases cs with
    | nil => cases hc
    | cons c' cs =>
      simp only [List.map_cons, List.zip_cons_cons, allApart, Bool.and_eq_true, List.all_eq_true] at hap
      obtain ⟨hhead, htail⟩ := hap
      cases k with
      | zero =>
        cases hr
        cases hc
        rw [matchRows, if_pos hw]
      | succ k =>
        rw [List.getElem?_cons_succ] at hr hc
        have hne : w &&& r'.mask ≠ c' := by
          rintro rfl
          have hmem : (r.mask, c) ∈ (rs.map Row.mask).zip cs :=
            List.mem_of_getElem? (List.getElem?_zip_eq_some.2 ⟨by simp [hr], hc⟩)
          have hapart := hhead _ hmem
          rw [← hw, not_apart_of_match] at hapart
          cases hapart
        rw [matchRows, if_neg hne]
        exact ih htail hr hc

/-- A word that stands for an instruction matches a row that makes it. -/
theorem exists_of_matchRows {rs : List Row} {cs : List Word} {w : Word} {i : Instr}
    (h : matchRows rs cs w = .instr i) :
    ∃ (k : Nat) (r : Row), rs[k]? = some r ∧ cs[k]? = some (w &&& r.mask) ∧ r.build w = .instr i := by
  induction rs generalizing cs with
  | nil => cases cs <;> cases h
  | cons r rs ih =>
    cases cs with
    | nil => cases h
    | cons c cs =>
      rw [matchRows] at h
      split at h
      · rename_i hw
        exact ⟨0, r, rfl, by rw [hw]; rfl, h⟩
      · obtain ⟨k, r', hr, hc, hi⟩ := ih h
        exact ⟨k + 1, r', hr, hc, hi⟩

/-- Under a valid map a word with the code of a row stands for what the row makes of it. -/
theorem decodeWith_of_match {m : OpcodeMap} (hm : m.valid = true) {k : Nat} {r : Row} {w : Word}
    (hr : rows[k]? = some r) (hw : w &&& r.mask = m.code k) : decodeWith m w = r.build w := by
  obtain ⟨-, -, hap⟩ := OpcodeMap.valid_iff.1 hm
  exact matchRows_of_match hap hr (OpcodeMap.code_of_valid hm hr).1 hw

/-! ### Decoding and encoding -/

/-- Settles O3: the row that the word matches is encoded with the code that the word has. -/
theorem encodeOfDecode : Obligations.EncodeOfDecode := by
  intro m _ w i h
  obtain ⟨k, r, hr, hc, hi⟩ := exists_of_matchRows h
  exact (encodes_of_rows hr).encodeWith_of_build (OpcodeMap.code_of_getElem? hc).symm hi

/-- Settles O2: the instruction's row has a word with the map's code that stands for it, and that is its word. -/
theorem decodeOfEncode : Obligations.DecodeOfEncode := by
  intro m hm i hi
  obtain ⟨r, hr, hmakes⟩ := Instr.exists_row hi
  obtain ⟨w, hw, hbuild⟩ := hmakes _ (OpcodeMap.code_of_valid hm hr).2
  obtain ⟨hencode, -⟩ := (encodes_of_rows hr).encodeWith_of_build hw hbuild
  rw [hencode, decodeWith_of_match hm hr hw, hbuild]

/-- Settles O1: each word is matched against the model's own map. -/
theorem decodesSampleWords : Obligations.DecodesSampleWords := by
  refine ⟨?_, ?_, ?_, ?_, ?_, ?_, ?_, ?_, ?_⟩ <;> decide +kernel

/-- The rows of the five reserved encodings. -/
theorem rows_reserved {k : Nat} (hk : k < 5) : rows[345 + k]? = some r3Reserved := by
  interval_cases k <;> rfl

/-- A word with a reserved code is reserved, whatever its operands. -/
theorem decodeWith_reserved {m : OpcodeMap} (hm : m.valid = true) {k : Nat} (hk : k < 5) (x y z : BitVec 6) :
    decodeWith m (m.r3Word (345 + k) x y z) = .reserved := by
  have hc : m.code (345 + k) &&& ~~~0xFF00003F#32 = 0#32 := (OpcodeMap.code_of_valid hm (rows_reserved hk)).2
  refine decodeWith_of_match hm (rows_reserved hk) ?_
  simp (disch := decide) [r3Reserved, OpcodeMap.r3Word, or_placed_and_mask, and_mask_of_and_not hc]

end Sys2Proof

namespace Sys2Proof.Machine

open Sys2Proof Sys2Proof.Claims

/-! ### A step on a word it fetches -/

/-- A fetch of bytes that could not be observed old draws no free values. -/
theorem State.drawnAfterFetch_of_fresh {s : State} {n : Nat} {pa : Nat → Nat} (h : s.Fresh n pa) :
    s.drawnAfterFetch ((List.range n).map pa) = s := by
  have hall : ((List.range n).map pa).all (fun a => decide (s.staleAt a = [])) = true := by
    simpa [State.Fresh] using h
  simp only [State.drawnAfterFetch, hall, if_true]

/-- A fetch of bytes that could not be observed old answers the word that memory holds, and changes nothing. -/
theorem State.fetch_of_holds {s : State} {pa : Nat → Nat} {w : Word} (hmaps : s.Maps .execute s.pc s.pc 4 pa)
    (hholds : s.mem.Holds pa s.params.fetchOrder 32 w) (hfresh : s.Fresh 4 pa) : s.fetch = .ok (w, s) := by
  have hbytes : s.fetchBytes 0 ((List.range 4).map pa) = (List.range 4).map (byteAt s.params.fetchOrder 32 w) := by
    rw [State.fetchBytes_map_range]
    refine List.map_congr_left fun k hk => ?_
    rw [State.fetchByte_of_fresh (hfresh k (List.mem_range.1 hk))]
    exact hholds k (List.mem_range.1 hk)
  rw [State.fetch, State.span_of_maps hmaps]
  simp only [hbytes, State.drawnAfterFetch_of_fresh hfresh]
  rw [assemble_byteAt s.params.fetchOrder (by decide)]

/-- A step of a running machine runs the word that its fetch answers. -/
theorem step_of_fetch {s t : State} {w : Word} (hrun : s.halted = false) (hf : s.fetch = .ok (w, t)) :
    step s = runWord w t := by
  rw [step, if_neg (by simp [hrun]), hf, Access.andThen_ok]

/-- The registers named are among those of the machine. -/
theorem State.hasRegisters_iff {s : State} {rs : List Reg} : s.hasRegisters rs = true ↔ HasRegisters s rs := by
  simp [State.hasRegisters, HasRegisters]

/-- A word of an instruction all of whose registers the machine has. -/
theorem runWord_of_instr {w : Word} {s : State} {i : Instr} (hi : decodeWith s.params.opcodeMap w = .instr i)
    (hr : HasRegisters s i.registers) : runWord w s = exec i s := by
  rw [runWord, hi, runDecoded, State.withRegisters, if_pos (State.hasRegisters_iff.2 hr)]

/-- A word that names a register the machine has not. -/
theorem runWord_of_missingRegister {w : Word} {s : State} {i : Instr}
    (hi : decodeWith s.params.opcodeMap w = .instr i) (hr : ¬HasRegisters s i.registers) :
    runWord w s = .refused (.missingRegister w) := by
  rw [runWord, hi, runDecoded, State.withRegisters, if_neg (mt State.hasRegisters_iff.1 hr)]

/-- A word of a reserved encoding. -/
theorem runWord_of_reserved {w : Word} {s : State} (hd : decodeWith s.params.opcodeMap w = .reserved) :
    runWord w s = s.raiseExn .reservedInstruction := by
  rw [runWord, hd, runDecoded]

/-- A word of no instruction. -/
theorem runWord_of_unassigned {w : Word} {s : State} (hd : decodeWith s.params.opcodeMap w = .unassigned) :
    runWord w s = .refused (.unassignedWord w) := by
  rw [runWord, hd, runDecoded]

/-- Settles O5: the fetch answers the word and the state as it is, and the word is run there. -/
theorem stepRunsDecodedInstruction : Obligations.StepRunsDecodedInstruction := by
  intro s pa w hrun hmaps hholds hfresh
  rw [step_of_fetch hrun (State.fetch_of_holds hmaps hholds hfresh)]
  exact ⟨fun i hi => ⟨runWord_of_instr hi, runWord_of_missingRegister hi⟩, runWord_of_unassigned⟩

/-! ### Reserved instructions -/

/-- Fields that do not hold what they must name no register. -/
theorem registersIf_of_not {p : Prop} [Decidable p] (h : ¬p) (rs : List Reg) : registersIf (decide p) rs = [] := by
  rw [registersIf, decide_eq_false h, if_neg Bool.false_ne_true]

/-- An instruction with reserved fields names no register, so that no machine lacks one of them, and raises "Reserved
Instruction" in every state. -/
theorem exec_of_reservedFields {i : Instr} (h : ReservedFields i) (s : State) :
    i.registers = [] ∧ exec i s = s.raiseExn .reservedInstruction := by
  obtain ⟨imm, rfl⟩ | ⟨rd, imm, rfl⟩ | ⟨rd, rc, rb, ⟨hi, h⟩ | ⟨hi, h⟩ | ⟨rfl, h⟩ | ⟨rfl, h⟩⟩ := h
  · exact ⟨rfl, rfl⟩
  · exact ⟨rfl, rfl⟩
  · have hfields : ¬(rc = 0 ∧ rb = 0) := by rwa [not_and_or]
    obtain rfl | rfl | rfl := hi
    · exact ⟨registersIf_of_not hfields [rd], if_pos h⟩
    · exact ⟨registersIf_of_not hfields [rd], if_pos h⟩
    · exact ⟨registersIf_of_not hfields [rd], if_pos h⟩
  · have hfields : ¬(rd = 0 ∧ rc = 0 ∧ rb = 0) := by rwa [not_and_or, not_and_or]
    obtain rfl | rfl := hi
    · exact ⟨registersIf_of_not hfields [0], if_pos h⟩
    · exact ⟨rfl, if_pos h⟩
  · have hfields : ¬(rd = 0 ∧ rc = 1) := by rwa [not_and_or]
    exact ⟨registersIf_of_not hfields [0, 1, rb], if_pos h⟩
  · exact ⟨registersIf_of_not h [rd, rc], if_pos h⟩

/-- Settles O4: the reserved rows make every word reserved, and a reserved word or field ends in the exception. -/
theorem reservedWordsRaise : Obligations.ReservedWordsRaise := by
  refine ⟨fun m hm k hk => decodeWith_reserved hm hk, fun s pa w hrun hmaps hholds hfresh => ?_⟩
  rw [step_of_fetch hrun (State.fetch_of_holds hmaps hholds hfresh)]
  refine ⟨fun hd => ?_, fun i hi hfields => ?_⟩
  · rw [runWord_of_reserved hd]
    exact isRaised_raiseExn s .reservedInstruction
  · obtain ⟨hregs, hexec⟩ := exec_of_reservedFields hfields s
    have hnone : HasRegisters s i.registers := by
      rw [hregs]
      exact nofun
    rw [runWord_of_instr hi hnone, hexec]
    exact isRaised_raiseExn s .reservedInstruction

end Sys2Proof.Machine
end

section
/-! The family 40_load: what an extension makes of the value loaded, and what every load writes. -/

namespace Sys2Proof.Machine

open Sys2Proof Sys2Proof.Claims

/-! ### The extension of a loaded value (40_load.md rule R203) -/

/-- A signed extension keeps the value as a signed number. -/
theorem Extension.toInt_extend_signed {size : Nat} (h : size ≤ 128) (v : BitVec size) :
    (Extension.signed.extend v).toInt = v.toInt :=
  BitVec.toInt_signExtend_of_le h

/-- An unsigned extension keeps the value as an unsigned number. -/
theorem Extension.toNat_extend_unsigned {size : Nat} (h : size ≤ 128) (v : BitVec size) :
    (Extension.unsigned.extend v).toNat = v.toNat :=
  BitVec.toNat_setWidth_of_le h

/-- The extension that the flag of a load names keeps the value as a number of the flag's kind. -/
theorem Extension.extend_ofFlag {size : Nat} (h : size ≤ 128) (signed : Bool) (v : BitVec size) :
    (signed = true → ((Extension.ofFlag signed).extend v).toInt = v.toInt) ∧
      (signed = false → ((Extension.ofFlag signed).extend v).toNat = v.toNat) := by
  cases signed with
  | true => exact ⟨fun _ => toInt_extend_signed h v, nofun⟩
  | false => exact ⟨nofun, fun _ => toNat_extend_unsigned h v⟩

/-- A load whose base passes its test, from bytes that map and hold a value, writes the value extended to all of
`x[rd]` and goes on. -/
theorem writes128_loadForm {f : LoadForm} (hf : f ∈ loadForms) (rd : Reg) {rc : Reg} {p : Place} {s : State}
    {pa : Nat → Nat} {v : BitVec f.size} (hal : f.aligned = true → BaseAligned s rc f.size)
    (hm : s.Maps .read (s.lo rc) (p.address s rc f.size) (f.size / 8) pa) (hh : s.mem.Holds pa f.order f.size v) :
    Writes128 (f.instr rd rc p) s rd ((Extension.ofFlag f.signed).extend v) := by
  have hsize := loadForms_size hf
  rw [Writes128, exec_loadForm hf, load_of_holds hsize (rejects_ofFlag_of_accepted hsize hal) hm hh]
  rfl

/-- Settles O9: the load writes the extended value, and the extension that its flag names keeps the value. -/
theorem loadsComplete : Obligations.LoadsComplete := by
  intro f hf rd rc p s pa v hal hm hh
  obtain ⟨hsigned, hunsigned⟩ := Extension.extend_ofFlag (loadForms_size hf).le f.signed v
  exact ⟨_, hsigned, hunsigned, writes128_loadForm hf rd hal hm hh⟩

end Sys2Proof.Machine
end

section
/-! The family 41_store: what a fetch may observe of the bytes a store has replaced, and what every plain store and
every multiplex store leaves. -/

namespace Sys2Proof.Machine

open Sys2Proof Sys2Proof.Claims

/-! ### The contents a store replaces (20_memory.md rule R110) -/

/-- Where no byte is stored, a fetch may observe what it might have before. -/
theorem State.staleAt_storeBytes_of_absent (s : State) (pas : List Nat) (vs : List Byte) {a : Nat} (h : a ∉ pas) :
    (s.storeBytes pas vs).staleAt a = s.staleAt a := by
  induction pas generalizing s vs with
  | nil => cases vs <;> rfl
  | cons pa pas ih =>
    cases vs with
    | nil => rfl
    | cons v vs =>
      rw [List.mem_cons, not_or] at h
      rw [State.storeBytes, ih _ vs h.2, State.staleAt_storeByte, if_neg h.1]

/-- Storing bytes takes no old contents off the record. -/
theorem State.mem_staleAt_storeBytes (s : State) (pas : List Nat) (vs : List Byte) {a : Nat} {b : Byte}
    (h : b ∈ s.staleAt a) : b ∈ (s.storeBytes pas vs).staleAt a := by
  induction pas generalizing s vs with
  | nil => cases vs <;> exact h
  | cons pa pas ih =>
    cases vs with
    | nil => exact h
    | cons v vs =>
      apply ih
      rw [State.staleAt_storeByte]
      split
      · rename_i e
        exact e ▸ List.mem_cons_of_mem _ h
      · exact h

/-- The contents from before a store stay on record at each address stored to, however often it is stored to: the first
byte stored there puts them on. -/
theorem State.read_mem_staleAt_storeBytes (s : State) {pas : List Nat} {vs : List Byte} {a : Nat}
    (hlen : pas.length ≤ vs.length) (h : a ∈ pas) : s.mem.read a ∈ (s.storeBytes pas vs).staleAt a := by
  induction pas generalizing s vs with
  | nil => cases h
  | cons pa pas ih =>
    cases vs with
    | nil => cases hlen
    | cons v vs =>
      by_cases e : a = pa
      · have hhead : s.mem.read a ∈ (s.storeByte pa v).staleAt a := by
          rw [State.staleAt_storeByte, if_pos e, e]
          exact List.mem_cons_self
        exact State.mem_staleAt_storeBytes _ pas vs hhead
      · have hold : (s.storeByte pa v).mem.read a = s.mem.read a := Memory.read_write_ne _ v e
        rw [← hold]
        exact ih _ (Nat.le_of_succ_le_succ hlen) (List.mem_of_ne_of_mem e h)

/-! ### Stores to bytes that map -/

/-- A store to bytes that map succeeds: it stores the value and puts what it replaced on record at the addresses that
its bytes map to, and changes nothing else. -/
theorem State.storeMemory_storedAt {s : State} {ba va : Octlet} {size : Nat} {pa : Nat → Nat}
    (hm : s.Maps .write ba va (size / 8) pa) (ord : ByteOrder) (data : BitVec size) :
    ∃ t, s.storeMemory ba va size ord data = .ok t ∧ t = { s with mem := t.mem, stale := t.stale } ∧
      StoredAt s t pa ord size data := by
  obtain ⟨t, ht, hrest, hstored⟩ := State.storeMemory_of_maps (ord := ord) hm data
  refine ⟨t, ht, hrest, hstored, ?_⟩
  rw [State.storeMemory, State.span_of_maps hm] at ht
  obtain rfl := Access.ok.inj ht
  refine ⟨fun k hk => ?_, fun a ha => ?_⟩
  · exact s.read_mem_staleAt_storeBytes (by simp [disassemble_eq]) (List.mem_map_of_mem (List.mem_range.2 hk))
  · exact s.staleAt_storeBytes_of_absent _ _ (by simpa using ha)

/-- To go on to the next instruction changes neither memory nor what a fetch may observe of it. -/
theorem storedAt_advance {s t : State} {pa : Nat → Nat} {ord : ByteOrder} {size : Nat} {v : BitVec size}
    (h : StoredAt s t pa ord size v) : StoredAt s t.advance pa ord size v := h

/-- Where only memory and the list of old contents have changed, to go on changes `pc` besides. -/
theorem State.advance_eq_of_stored {s t : State} (h : t = { s with mem := t.mem, stale := t.stale }) :
    t.advance = { s with pc := s.pc + 4#64, mem := t.advance.mem, stale := t.advance.stale } := by
  rw [h]
  rfl

/-- Settles O10: a store whose base passes its test is the store of the low bits, and goes on. -/
theorem storesComplete : Obligations.StoresComplete := by
  intro f hf rd rc p s pa hal hm
  have hacc := rejects_ofFlag_of_accepted (storeForms_size hf) hal
  obtain ⟨t, ht, hrest, hstored⟩ := State.storeMemory_storedAt hm f.order ((s.reg rd).setWidth f.size)
  refine ⟨t.advance, ?_, State.advance_eq_of_stored hrest, storedAt_advance hstored⟩
  rw [exec_storeForm hf, store_of_accepts hacc, ht, Access.andThen_ok]

/-! ### The `lock` block and the merge of the multiplex stores (41_store.md rule R303) -/

/-- A `lock` block over an octlet that memory holds, with something to store in its place: the octlet is replaced, the
end of the block runs in the state so reached, and the next instruction follows. -/
theorem lockedOctlet_of_holds {ord : ByteOrder} {rc : Reg} {va : Octlet} {s : State} {update : Octlet → Option Octlet}
    {pa : Nat → Nat} {a m : Octlet} (hb : BaseAligned s rc 64) (hm : s.Maps .write (s.lo rc) va 8 pa)
    (hh : s.mem.Holds pa ord 64 a) (hu : update a = some m) (finish : Octlet → State → State) :
    ∃ t, lockedOctlet ord rc va s update finish = .next (finish a t).advance ∧
      t = { s with mem := t.mem, stale := t.stale } ∧ StoredAt s t pa ord 64 m := by
  have hmis : misaligned (s.lo rc) 64 = false := (misaligned_eq_false_iff isAccessSize_octlet).2 hb
  obtain ⟨t, ht, hrest, hstored⟩ := State.storeMemory_storedAt (size := 64) hm ord m
  refine ⟨t, ?_, hrest, hstored⟩
  rw [lockedOctlet, if_neg (by simp [hmis]), State.loadMemory_of_holds (size := 64) (by decide) hm hh,
    Access.andThen_ok, hu]
  simp only [ht, Access.andThen_ok]

/-- A bit of the merge comes from `x[rd][127:64]` where the mask `x[rd][63:0]` is set, and from the old octlet
elsewhere. -/
theorem getLsbD_multiplexed (s : State) (rd : Reg) (a : Octlet) {k : Nat} (hk : k < 64) :
    (multiplexed s rd a).getLsbD k =
      if (s.reg rd).getLsbD k then (s.reg rd).getLsbD (64 + k) else a.getLsbD k := by
  cases hmask : (s.reg rd).getLsbD k <;> simp [multiplexed, State.hi, State.lo, hk, hmask]

/-- The merge that the rule describes bit by bit is the one that the model computes. -/
theorem multiplexes_iff {s : State} {rd : Reg} {a m : Octlet} :
    Multiplexes (s.reg rd) a m ↔ m = multiplexed s rd a := by
  constructor
  · exact fun h => BitVec.eq_of_getLsbD_eq fun k hk => (h k hk).trans (getLsbD_multiplexed s rd a hk).symm
  · rintro rfl
    exact fun _ hk => getLsbD_multiplexed s rd a hk

/-- Settles O14: the store is a `lock` block that puts the merge in the place of the octlet and writes no register. -/
theorem multiplexStores : Obligations.MultiplexStores := by
  intro f hf rd rc p s pa a m hb hm hh hmux
  obtain rfl := multiplexes_iff.1 hmux
  obtain ⟨t, ht, hrest, hstored⟩ :=
    lockedOctlet_of_holds (update := fun a => some (multiplexed s rd a)) hb hm hh rfl fun _ t => t
  refine ⟨t.advance, ?_, State.advance_eq_of_stored hrest, storedAt_advance hstored⟩
  rw [exec_multiplexForm hf, storeMultiplex, ht]

end Sys2Proof.Machine
end

section
/-! The family 42_address: what an instruction that ends in a 64-bit write, in a check or in a comparison has done; the
checked sums, differences and shifts as arithmetic on integers; and the bits of the logical instructions.  The lemmas on
checks and comparisons hold at every width, so that lanes may use them too. -/

namespace Sys2Proof.Machine

open Sys2Proof Sys2Proof.Claims

/-! ### What the shared bodies do -/

/-- What `RegWrite64Upper` leaves in bits 127..64 is what the parameter says. -/
theorem State.upperHalf_upperAfter (s : State) (rd : Reg) (a : Octlet) : UpperHalf s rd a (s.upperAfter rd a) := by
  unfold UpperHalf State.upperAfter
  cases s.params.upperWrite with
  | draw => trivial
  | zero => rfl
  | sext =>
    intro k hk
    simp only [BitVec.getLsbD_sshiftRight, BitVec.msb_eq_getLsbD_last]
    rcases Nat.eq_zero_or_pos k with rfl | hpos
    · simp
    · simp [show ¬64 ≤ k by omega, show ¬63 + k < 64 by omega]
  | preserve =>
    intro k hk
    simp [State.hi, hk]

/-- An instruction that is a 64-bit write of the address family. -/
theorem writes64_of_exec {i : Instr} {s : State} {rd : Reg} {a : Octlet} (h : exec i s = addressWrite rd a s) :
    Writes64 i s rd a :=
  ⟨s.upperAfter rd a, s.upperHalf_upperAfter rd a, h⟩

/-- An instruction that is the raising of an exception. -/
theorem raises_of_exec {i : Instr} {s : State} {e : Exn} (h : exec i s = s.raiseExn e) : Raises i s e := by
  rw [Raises, h]
  exact isRaised_raiseExn s e

/-- The word of `n` bits that stands for `z`, if `lo ≤ z < hi`: the result of a check. -/
def fitIn (n : Nat) (lo hi z : Int) : Option (BitVec n) := if lo ≤ z ∧ z < hi then some (BitVec.ofInt n z) else none

/-- An instruction that ends in the check that `t` lies in a range. -/
theorem checked_of_exec {i : Instr} {s : State} {rd : Reg} {o : Option Octlet} {lo hi t : Int}
    (ho : o = fitIn 64 lo hi t) (h : exec i s = addressChecked rd o s) : Checked i s rd lo hi t := by
  subst ho
  refine ⟨fun hfit => writes64_of_exec ?_, fun hfit => raises_of_exec ?_⟩
  · rw [h, fitIn, if_pos hfit, addressChecked]
  · rw [h, fitIn, if_neg hfit, addressChecked]

/-! ### Words as integers modulo a power of two -/

theorem ofInt_sub {n : Nat} (x y : Int) : BitVec.ofInt n (x - y) = BitVec.ofInt n x - BitVec.ofInt n y := by
  rw [Int.sub_eq_add_neg, BitVec.ofInt_add, BitVec.ofInt_neg, BitVec.sub_eq_add_neg]

theorem signExtend_eq_ofInt {m : Nat} (n : Nat) (x : BitVec m) : x.signExtend n = BitVec.ofInt n x.toInt := rfl

theorem setWidth_eq_ofInt {m : Nat} (n : Nat) (x : BitVec m) : x.setWidth n = BitVec.ofInt n x.toNat := by
  rw [BitVec.ofInt_natCast, BitVec.ofNat_toNat]

theorem ofInt_toNat {n : Nat} (x : BitVec n) : BitVec.ofInt n x.toNat = x := by
  rw [← setWidth_eq_ofInt, BitVec.setWidth_eq]

theorem toNat_ofInt_cast {n : Nat} (z : Int) : ((BitVec.ofInt n z).toNat : Int) = z % 2 ^ n := by
  rw [BitVec.toNat_ofInt, Int.toNat_of_nonneg (Int.emod_nonneg _ (by positivity))]
  push_cast
  rfl

/-- The low bits of an integer are those of its low bits. -/
theorem setWidth_ofInt {m n : Nat} (h : m ≤ n) (z : Int) : (BitVec.ofInt n z).setWidth m = BitVec.ofInt m z := by
  apply BitVec.eq_of_toNat_eq
  zify
  rw [BitVec.toNat_setWidth, Int.natCast_mod, toNat_ofInt_cast, toNat_ofInt_cast]
  push_cast
  exact Int.emod_emod_of_dvd z (pow_dvd_pow 2 h)

theorem msb_ofInt {n : Nat} (z : Int) : (BitVec.ofInt n z).msb = decide (2 ^ (n - 1) ≤ z % 2 ^ n) := by
  rw [BitVec.msb_eq_decide, decide_eq_decide, ← toNat_ofInt_cast (n := n) z]
  exact_mod_cast Iff.rfl

/-- The top bit of `n + 1` bits. -/
theorem getLsbD_top_ofInt {n : Nat} (z : Int) :
    (BitVec.ofInt (n + 1) z).getLsbD n = decide (2 ^ n ≤ z % 2 ^ (n + 1)) :=
  (BitVec.msb_eq_getLsbD_last _).symm.trans (msb_ofInt z)

/-- The remainder of a number between `-m` and `m`, by its sign. -/
theorem emod_by_sign {z m : Int} (hlo : -m ≤ z) (hhi : z < m) : z % m = if z < 0 then z + m else z := by
  split
  · rw [← Int.add_emod_right, Int.emod_eq_of_lt (by omega) (by omega)]
  · exact Int.emod_eq_of_lt (by omega) hhi

/-! ### Overflow tests (42_address.md rule R402) -/

/-- `t[n] = 0` says that `t` modulo `2^(n+1)` is below `2^n`. -/
theorem unsignedFit_ofInt {n : Nat} (z : Int) :
    unsignedFit (BitVec.ofInt (n + 1) z) =
      if z % 2 ^ (n + 1) < 2 ^ n then some (BitVec.ofInt n z) else none := by
  simp only [unsignedFit, getLsbD_top_ofInt, setWidth_ofInt (Nat.le_succ n), decide_eq_true_eq]
  split
  · rw [if_neg (by omega)]
  · rw [if_pos (by omega)]

/-- The unsigned test of an exact result that is a sum or a difference of `n`-bit numbers. -/
theorem unsignedFit_eq_fitIn {n : Nat} {z : Int} (hlo : -2 ^ n ≤ z) (hhi : z < 2 ^ (n + 1)) :
    unsignedFit (BitVec.ofInt (n + 1) z) = fitIn n 0 (2 ^ n) z := by
  have hpow : (2 : Int) ^ (n + 1) = 2 * 2 ^ n := pow_succ' 2 n
  have hpos : (0 : Int) < 2 ^ n := by positivity
  have hmod := emod_by_sign (z := z) (m := 2 ^ (n + 1)) (by omega) hhi
  have hiff : z % 2 ^ (n + 1) < 2 ^ n ↔ 0 ≤ z ∧ z < 2 ^ n := by
    rw [hmod]
    split <;> omega
  simp only [unsignedFit_ofInt, fitIn, hiff]

/-- The signed test `t[n] = t[n-1]` of an exact result that has `n + 1` bits. -/
theorem signedFit_eq_fitIn {n : Nat} (hn : 0 < n) {z : Int} (hlo : -2 ^ n ≤ z) (hhi : z < 2 ^ n) :
    signedFit (BitVec.ofInt (n + 1) z) = fitIn n (-2 ^ (n - 1)) (2 ^ (n - 1)) z := by
  have hsucc : (2 : Int) ^ (n + 1) = 2 * 2 ^ n := pow_succ' 2 n
  have hpred : (2 : Int) ^ n = 2 * 2 ^ (n - 1) := by rw [← pow_succ', Nat.sub_add_cancel hn]
  have hpos : (0 : Int) < 2 ^ (n - 1) := by positivity
  have hnext : (BitVec.ofInt (n + 1) z).getLsbD (n - 1) = decide (2 ^ (n - 1) ≤ z % 2 ^ n) := by
    rw [← msb_ofInt, ← setWidth_ofInt (Nat.le_succ n) z, BitVec.msb_eq_getLsbD_last, BitVec.getLsbD_setWidth]
    simp [hn]
  have hiff : (2 ^ n ≤ z % 2 ^ (n + 1) ↔ 2 ^ (n - 1) ≤ z % 2 ^ n) ↔ -2 ^ (n - 1) ≤ z ∧ z < 2 ^ (n - 1) := by
    rw [emod_by_sign (z := z) (m := 2 ^ (n + 1)) (by omega) (by omega), emod_by_sign hlo hhi]
    split <;> omega
  simp only [signedFit, fitIn, getLsbD_top_ofInt, hnext, setWidth_ofInt (Nat.le_succ n), bne_iff_ne, ne_eq,
    decide_eq_decide, hiff, ite_not]

theorem addSigned_eq_fitIn {n : Nat} (hn : 0 < n) (x y : BitVec n) :
    addSigned x y = fitIn n (-2 ^ (n - 1)) (2 ^ (n - 1)) (x.toInt + y.toInt) := by
  have hx : -2 ^ n ≤ 2 * x.toInt ∧ 2 * x.toInt < 2 ^ n := ⟨BitVec.le_two_mul_toInt, BitVec.two_mul_toInt_lt⟩
  have hy : -2 ^ n ≤ 2 * y.toInt ∧ 2 * y.toInt < 2 ^ n := ⟨BitVec.le_two_mul_toInt, BitVec.two_mul_toInt_lt⟩
  rw [addSigned, signExtend_eq_ofInt, signExtend_eq_ofInt, ← BitVec.ofInt_add,
    signedFit_eq_fitIn hn (by omega) (by omega)]

theorem subSigned_eq_fitIn {n : Nat} (hn : 0 < n) (x y : BitVec n) :
    subSigned x y = fitIn n (-2 ^ (n - 1)) (2 ^ (n - 1)) (x.toInt - y.toInt) := by
  have hx : -2 ^ n ≤ 2 * x.toInt ∧ 2 * x.toInt < 2 ^ n := ⟨BitVec.le_two_mul_toInt, BitVec.two_mul_toInt_lt⟩
  have hy : -2 ^ n ≤ 2 * y.toInt ∧ 2 * y.toInt < 2 ^ n := ⟨BitVec.le_two_mul_toInt, BitVec.two_mul_toInt_lt⟩
  rw [subSigned, signExtend_eq_ofInt, signExtend_eq_ofInt, ← ofInt_sub,
    signedFit_eq_fitIn hn (by omega) (by omega)]

/-- An unsigned word is below the power of two of its width, as an integer. -/
theorem toNat_cast_lt {n : Nat} (x : BitVec n) : (x.toNat : Int) < 2 ^ n := by exact_mod_cast x.isLt

theorem addUnsigned_eq_fitIn {n : Nat} (x y : BitVec n) :
    addUnsigned x y = fitIn n 0 (2 ^ n) (x.toNat + y.toNat) := by
  have hpow : (2 : Int) ^ (n + 1) = 2 * 2 ^ n := pow_succ' 2 n
  have hx := toNat_cast_lt x
  have hy := toNat_cast_lt y
  rw [addUnsigned, setWidth_eq_ofInt, setWidth_eq_ofInt, ← BitVec.ofInt_add,
    unsignedFit_eq_fitIn (by omega) (by omega)]

theorem subUnsigned_eq_fitIn {n : Nat} (x y : BitVec n) :
    subUnsigned x y = fitIn n 0 (2 ^ n) (x.toNat - y.toNat) := by
  have hpow : (2 : Int) ^ (n + 1) = 2 * 2 ^ n := pow_succ' 2 n
  have hx := toNat_cast_lt x
  have hy := toNat_cast_lt y
  rw [subUnsigned, setWidth_eq_ofInt, setWidth_eq_ofInt, ← ofInt_sub,
    unsignedFit_eq_fitIn (by omega) (by omega)]

/-! ### Sums and differences -/

theorem add_eq_ofInt {n : Nat} (x y : BitVec n) : x + y = BitVec.ofInt n (x.toInt + y.toInt) := by
  rw [BitVec.ofInt_add, BitVec.ofInt_toInt, BitVec.ofInt_toInt]

theorem sub_eq_ofInt {n : Nat} (x y : BitVec n) : x - y = BitVec.ofInt n (x.toInt - y.toInt) := by
  rw [ofInt_sub, BitVec.ofInt_toInt, BitVec.ofInt_toInt]

theorem shiftLeft_eq_ofInt {n : Nat} (x : BitVec n) (k : Nat) : x <<< k = BitVec.ofInt n (x.toInt * 2 ^ k) := by
  have htwo : BitVec.ofInt n (2 ^ k) = BitVec.twoPow n k := by
    apply BitVec.eq_of_toNat_eq
    zify
    rw [toNat_ofInt_cast, BitVec.toNat_twoPow]
    push_cast
    rfl
  rw [BitVec.ofInt_mul, BitVec.ofInt_toInt, htwo, BitVec.shiftLeft_eq_mul_twoPow]

/-- The immediate as a number (30_encoding.md rule R143). -/
theorem toInt_addressImmediate (imm : BitVec 12) : (addressImmediate imm).toInt = imm.toInt :=
  BitVec.toInt_signExtend_of_le (by decide)

/-- Settles O21: each sum or difference of words is that of their numbers, wrapped. -/
theorem addressArithmeticWraps : Obligations.AddressArithmeticWraps := by
  intro rd rc rb imm amount s _ _
  refine ⟨writes64_of_exec ?_, writes64_of_exec ?_, writes64_of_exec ?_, writes64_of_exec ?_, writes64_of_exec ?_,
    writes64_of_exec ?_⟩
  · rw [← add_eq_ofInt]
    rfl
  · rw [← sub_eq_ofInt]
    rfl
  · rw [← toInt_addressImmediate, ← add_eq_ofInt]
    rfl
  · rw [← toInt_addressImmediate, ← sub_eq_ofInt]
    rfl
  · rw [BitVec.ofInt_add, BitVec.ofInt_toInt, ← shiftLeft_eq_ofInt]
    rfl
  · rw [ofInt_sub, BitVec.ofInt_toInt, ← shiftLeft_eq_ofInt]
    rfl

/-- Settles O22: the signed overflow test of 65 bits is the range test of the exact result. -/
theorem addressSignedChecked : Obligations.AddressSignedChecked := by
  intro rd rc rb imm s
  rw [← toInt_addressImmediate]
  exact ⟨checked_of_exec (addSigned_eq_fitIn (by decide) _ _) rfl,
    checked_of_exec (subSigned_eq_fitIn (by decide) _ _) rfl,
    checked_of_exec (addSigned_eq_fitIn (by decide) _ _) rfl,
    checked_of_exec (subSigned_eq_fitIn (by decide) _ _) rfl⟩

/-- Settles O23: the unsigned overflow test of 65 bits is the range test of the exact result. -/
theorem addressUnsignedChecked : Obligations.AddressUnsignedChecked := fun _ _ _ _ =>
  ⟨checked_of_exec (addUnsigned_eq_fitIn _ _) rfl, checked_of_exec (subUnsigned_eq_fitIn _ _) rfl⟩

/-! ### The readings of `UOImmReading` (42_address.md rule R403) -/

theorem uoRegister_eq_ofInt (u : UOReading) (c : Octlet) :
    uoRegister u c = BitVec.ofInt 65 (if u = .literal then c.toInt else (c.toNat : Int)) := by
  cases u with
  | literal => rfl
  | zextC | zextBoth => exact setWidth_eq_ofInt 65 c

theorem uoImmediate_eq_ofInt (u : UOReading) (i : Octlet) :
    uoImmediate u i = BitVec.ofInt 65 (if u = .zextBoth then (i.toNat : Int) else i.toInt) := by
  cases u with
  | literal | zextC => rfl
  | zextBoth => exact setWidth_eq_ofInt 65 i

/-- A word is its signed and its unsigned number, modulo `2^n`. -/
theorem ofInt_of_eq_toInt_or_toNat {n : Nat} {x : BitVec n} {z : Int} (h : z = x.toInt ∨ z = x.toNat) :
    BitVec.ofInt n z = x := by
  obtain rfl | rfl := h
  · exact BitVec.ofInt_toInt
  · exact ofInt_toNat x

/-- An instruction that ends in the unsigned test of a 65-bit `t`: it writes the low 64 bits or raises. -/
theorem writes64_or_raises_of_unsignedFit {i : Instr} {s : State} {rd : Reg} {z : Int} {a : Octlet}
    (ha : BitVec.ofInt 64 z = a) (h : exec i s = addressChecked rd (unsignedFit (BitVec.ofInt (64 + 1) z)) s) :
    (z % 2 ^ 65 < 2 ^ 64 → Writes64 i s rd a) ∧ (2 ^ 64 ≤ z % 2 ^ 65 → Raises i s .fixedPointArithmetic) := by
  rw [unsignedFit_ofInt, ha] at h
  refine ⟨fun hfit => writes64_of_exec ?_, fun hover => raises_of_exec ?_⟩
  · rw [h, if_pos hfit, addressChecked]
  · rw [h, if_neg (not_lt.2 hover), addressChecked]

/-- Settles O24: the reading chooses the 65-bit operands, and both extensions of an operand have the same low 64 bits. -/
theorem addressUnsignedImmediateChecked : Obligations.AddressUnsignedImmediateChecked := by
  intro rd rc imm s c i hc hi
  rw [← toInt_addressImmediate] at hi
  rw [← toInt_addressImmediate, ← add_eq_ofInt, ← sub_eq_ofInt]
  have hregister : uoRegister s.params.uoReading (s.lo rc) = BitVec.ofInt 65 c := by
    rw [uoRegister_eq_ofInt, hc]
  have himmediate : uoImmediate s.params.uoReading (addressImmediate imm) = BitVec.ofInt 65 i := by
    rw [uoImmediate_eq_ofInt, hi]
    rfl
  have hlowc : BitVec.ofInt 64 c = s.lo rc := ofInt_of_eq_toInt_or_toNat (hc ▸ ite_eq_or_eq _ _ _)
  have hlowi : BitVec.ofInt 64 i = addressImmediate imm := ofInt_of_eq_toInt_or_toNat (hi ▸ (ite_eq_or_eq _ _ _).symm)
  have hadd : exec (.aAddIUO rd rc imm) s = addressChecked rd (unsignedFit (BitVec.ofInt (64 + 1) (c + i))) s := by
    rw [BitVec.ofInt_add, ← hregister, ← himmediate]
    rfl
  have hsub : exec (.aSubIUO rd rc imm) s = addressChecked rd (unsignedFit (BitVec.ofInt (64 + 1) (i - c))) s := by
    rw [ofInt_sub, ← hregister, ← himmediate]
    rfl
  obtain ⟨haddFits, haddOver⟩ :=
    writes64_or_raises_of_unsignedFit (by rw [BitVec.ofInt_add, hlowc, hlowi]) hadd
  obtain ⟨hsubFits, hsubOver⟩ :=
    writes64_or_raises_of_unsignedFit (by rw [ofInt_sub, hlowc, hlowi]) hsub
  exact ⟨haddFits, haddOver, hsubFits, hsubOver⟩

/-! ### Shifts -/

theorem shiftLeft_eq_ofNat {n : Nat} (x : BitVec n) (k : Nat) : x <<< k = BitVec.ofNat n (x.toNat * 2 ^ k) := by
  apply BitVec.eq_of_toNat_eq
  rw [BitVec.toNat_shiftLeft, BitVec.toNat_ofNat, Nat.shiftLeft_eq]

theorem toInt_sshiftRight_eq_ediv {n : Nat} (x : BitVec n) (k : Nat) : (x.sshiftRight k).toInt = x.toInt / 2 ^ k := by
  rw [BitVec.toInt_sshiftRight, Int.shiftRight_eq_div_pow, Nat.cast_pow, Nat.cast_ofNat]

theorem sshiftRight_eq_ofInt {n : Nat} (x : BitVec n) (k : Nat) :
    x.sshiftRight k = BitVec.ofInt n (x.toInt / 2 ^ k) := by
  rw [← toInt_sshiftRight_eq_ediv, BitVec.ofInt_toInt]

theorem ushiftRight_eq_ofNat {n : Nat} (x : BitVec n) (k : Nat) : x >>> k = BitVec.ofNat n (x.toNat / 2 ^ k) := by
  apply BitVec.eq_of_toNat_eq
  rw [BitVec.toNat_ushiftRight, BitVec.toNat_ofNat, Nat.shiftRight_eq_div_pow,
    Nat.mod_eq_of_lt ((Nat.div_le_self _ _).trans_lt x.isLt)]

/-- A quotient rounded down is the sign, 0 or -1, exactly between the divisor and its negative. -/
theorem ediv_eq_sign_iff {z d : Int} (hd : 0 < d) : z / d = (if z < 0 then -1 else 0) ↔ -d ≤ z ∧ z < d := by
  split
  · rw [Int.ediv_eq_iff_of_pos hd]
    omega
  · rw [Int.ediv_eq_iff_of_pos hd]
    omega

/-- The test of A.SHL.I.O (42_address.md rule R465): a shift right by `63 - k` leaves the sign exactly when the product
fits. -/
theorem shiftSigned_eq_fitIn (c : Octlet) {k : Nat} (hk : k < 64) :
    shiftSigned c k = fitIn 64 (-2 ^ 63) (2 ^ 63) (c.toInt * 2 ^ k) := by
  have hpow : (2 : Int) ^ 63 = 2 ^ (63 - k) * 2 ^ k := by rw [← pow_add, Nat.sub_add_cancel (Nat.le_of_lt_succ hk)]
  have hsign : c.toInt / 2 ^ 63 = if c.toInt < 0 then -1 else 0 :=
    (ediv_eq_sign_iff (by decide)).2 ⟨c.le_toInt, c.toInt_lt⟩
  have hiff : c.sshiftRight (63 - k) = c.sshiftRight 63 ↔ -2 ^ 63 ≤ c.toInt * 2 ^ k ∧ c.toInt * 2 ^ k < 2 ^ 63 := by
    rw [← BitVec.toInt_inj, toInt_sshiftRight_eq_ediv, toInt_sshiftRight_eq_ediv, hsign,
      ediv_eq_sign_iff (by positivity), hpow, ← neg_mul,
      mul_le_mul_iff_of_pos_right (by positivity), mul_lt_mul_iff_of_pos_right (by positivity)]
  simp only [shiftSigned, fitIn, hiff, shiftLeft_eq_ofInt]

/-- The test of A.SHL.I.U.O (42_address.md rule R466): the `k` top bits are zero exactly when the product fits. -/
theorem shiftUnsigned_eq_fitIn (c : Octlet) {k : Nat} (hk : k < 64) :
    shiftUnsigned c k = fitIn 64 0 (2 ^ 64) (c.toNat * 2 ^ k) := by
  have hpow : 2 ^ 64 = 2 ^ (64 - k) * 2 ^ k := by rw [← pow_add, Nat.sub_add_cancel hk.le]
  have htop : c.toNat / 2 ^ (64 - k) < 2 ^ k := Nat.div_lt_of_lt_mul (hpow ▸ c.isLt)
  have hiff : c.extractLsb' (64 - k) k = 0#k ↔ c.toNat * 2 ^ k < 2 ^ 64 := by
    rw [BitVec.toNat_eq, BitVec.extractLsb'_toNat, Nat.shiftRight_eq_div_pow, Nat.mod_eq_of_lt htop, BitVec.toNat_ofNat,
      Nat.zero_mod, Nat.div_eq_zero_iff_lt (by positivity), hpow, Nat.mul_lt_mul_right (by positivity)]
  have hfit : c.extractLsb' (64 - k) k = 0#k ↔
      0 ≤ (c.toNat * 2 ^ k : Int) ∧ (c.toNat * 2 ^ k : Int) < 2 ^ 64 := by
    rw [hiff, and_iff_right (by positivity)]
    exact_mod_cast Iff.rfl
  have hproduct : c <<< k = BitVec.ofInt 64 (c.toNat * 2 ^ k) := by
    rw [shiftLeft_eq_ofNat, ← BitVec.ofInt_natCast]
    push_cast
    rfl
  simp only [shiftUnsigned, fitIn, hfit, hproduct]

/-- Settles O28: each shift is its product or quotient, and each test is the range test of the product. -/
theorem addressShifts : Obligations.AddressShifts := by
  intro rd rc n s
  refine ⟨writes64_of_exec ?_, writes64_of_exec ?_, writes64_of_exec ?_,
    checked_of_exec (shiftSigned_eq_fitIn _ n.isLt) rfl, checked_of_exec (shiftUnsigned_eq_fitIn _ n.isLt) rfl⟩
  · rw [← shiftLeft_eq_ofNat]
    rfl
  · rw [← sshiftRight_eq_ofInt]
    rfl
  · rw [← ushiftRight_eq_ofNat]
    rfl

/-! ### Comparisons (42_address.md rules R405 and R450) -/

/-- The bits of two words in common, as the two AND conditions test them. -/
theorem and_eq_zero_iff {n : Nat} (x y : BitVec n) :
    x &&& y = 0#n ↔ ∀ k < n, ¬(x.getLsbD k = true ∧ y.getLsbD k = true) := by
  simp [BitVec.eq_of_getLsbD_eq_iff]

/-- The comparison of two values that the model computes is the condition of the rules. -/
theorem Relation.holds_iff {n : Nat} (r : Relation) (x y : BitVec n) : r.holds x y = true ↔ Condition r x y := by
  cases r with
  | andE => exact beq_iff_eq.trans (and_eq_zero_iff x y)
  | andNE =>
    rw [Relation.holds, bne_iff_ne, ne_eq, and_eq_zero_iff]
    simp [Condition]
  | e => exact beq_iff_eq.trans BitVec.eq_of_getLsbD_eq_iff
  | ne =>
    rw [Relation.holds, bne_iff_ne, ne_eq, BitVec.eq_of_getLsbD_eq_iff]
    simp [Condition]
  | ge => exact BitVec.sle_iff_toInt_le
  | l => exact BitVec.slt_iff_toInt_lt
  | geU => exact BitVec.ule_iff_toNat_le
  | lU => exact BitVec.ult_iff_toNat_lt

/-- The comparison of a register with itself that the model computes is the condition of the rules. -/
theorem Relation.holdsSame_iff {n : Nat} (r : Relation) (x : BitVec n) :
    r.holdsSame x = true ↔ ConditionSame r x := by
  have hzero : (0#n).toInt = 0 := BitVec.toInt_zero
  cases r with
  | andE => simp [Relation.holdsSame, ConditionSame, BitVec.toNat_eq]
  | andNE => simp [Relation.holdsSame, ConditionSame, BitVec.toNat_eq]
  | e => exact iff_of_true rfl trivial
  | ne => exact iff_of_false Bool.false_ne_true id
  | ge | l | geU | lU =>
    simp only [Relation.holdsSame, ConditionSame, BitVec.sle_iff_toInt_le, BitVec.slt_iff_toInt_lt, hzero]

theorem State.comparesAt_iff (s : State) (n : Nat) (r : Relation) (left right : Reg) :
    s.comparesAt n r left right = true ↔
      (left = right → ConditionSame r ((s.reg right).setWidth n)) ∧
        (left ≠ right → Condition r ((s.reg left).setWidth n) ((s.reg right).setWidth n)) := by
  unfold State.comparesAt
  split
  case isTrue h => simp [h, Relation.holdsSame_iff]
  case isFalse h => simp [h, Relation.holds_iff]

/-- The comparison of two registers that the model computes is that of the rules, on `W` bits. -/
theorem State.compares_iff (s : State) (r : Relation) (left right : Reg) :
    s.compares r left right = true ↔ Compares s r left right := by
  rw [State.compares, Compares, compareWidth]
  cases s.params.compareWidth with
  | w64 => exact s.comparesAt_iff 64 r left right
  | w128 => exact s.comparesAt_iff 128 r left right

/-- The mask of a truth value that holds is all ones. -/
theorem maskOf_true (n : Nat) : maskOf n true = BitVec.ofInt n (-1) := by
  rw [maskOf, if_pos rfl, BitVec.ofInt_neg, ← BitVec.neg_one_eq_allOnes]
  rfl

/-- The mask of a truth value that does not hold is zero. -/
theorem maskOf_false (n : Nat) : maskOf n false = BitVec.ofInt n 0 := rfl

/-- An instruction that writes the mask of a truth value, which says whether `p` holds. -/
theorem writes64_of_addressSet {i : Instr} {s : State} {rd : Reg} {b : Bool} {p : Prop} (hb : b = true ↔ p)
    (h : exec i s = addressSet rd b s) :
    (p → Writes64 i s rd (BitVec.ofInt 64 (-1))) ∧ (¬p → Writes64 i s rd (BitVec.ofInt 64 0)) := by
  rw [addressSet] at h
  refine ⟨fun hp => writes64_of_exec ?_, fun hp => writes64_of_exec ?_⟩
  · rw [h, hb.2 hp, maskOf_true]
  · rw [h, Bool.eq_false_of_not_eq_true (mt hb.1 hp), maskOf_false]

/-- Every A.SET of two registers is the shared body at the comparison of its form. -/
theorem exec_setForm {f : Relation × (Reg → Reg → Reg → Instr)} (hf : f ∈ setForms) (rd rc rb : Reg) (s : State) :
    exec (f.2 rd rc rb) s = addressSet rd (s.compares f.1 rb rc) s := by
  unfold setForms at hf
  fin_cases hf <;> rfl

/-- Every A.SET of an immediate is the shared body at the comparison of its form. -/
theorem exec_setImmediateForm {f : Relation × (Reg → Reg → BitVec 12 → Instr)} (hf : f ∈ setImmediateForms)
    (rd rc : Reg) (imm : BitVec 12) (s : State) :
    exec (f.2 rd rc imm) s = addressSet rd (f.1.holds (addressImmediate imm) (s.lo rc)) s := by
  unfold setImmediateForms at hf
  fin_cases hf <;> rfl

/-- Every A.COM is the shared body at the comparison of its form. -/
theorem exec_compareForm {f : Relation × (Reg → Reg → Instr)} (hf : f ∈ compareForms) (rd rc : Reg) (s : State) :
    exec (f.2 rd rc) s = addressCompare f.1 rd rc s := by
  unfold compareForms at hf
  fin_cases hf <;> rfl

/-- Settles O25: the mask written is that of the comparison. -/
theorem addressSetRegisters : Obligations.AddressSetRegisters := fun f hf rd rc rb s =>
  writes64_of_addressSet (s.compares_iff f.1 rb rc) (exec_setForm hf rd rc rb s)

/-- Settles O26: the mask written is that of the comparison with the immediate on the left. -/
theorem addressSetImmediate : Obligations.AddressSetImmediate := fun f hf rd rc imm s =>
  writes64_of_addressSet (f.1.holds_iff (addressImmediate imm) (s.lo rc)) (exec_setImmediateForm hf rd rc imm s)

/-- Settles O27: the shared body, whose name is `addressCompare`, raises or goes on by the comparison. -/
theorem addressCompares : Obligations.AddressCompare := by
  intro f hf rd rc s
  rw [GoesOn, ← s.compares_iff]
  refine ⟨fun hc => raises_of_exec ?_, fun hc => ?_⟩
  · rw [exec_compareForm hf, addressCompare, if_pos hc]
  · rw [exec_compareForm hf, addressCompare, if_neg hc]
    rfl

/-! ### Logic, bit by bit -/

/-- The low half of a register has its low 64 bits. -/
theorem State.getLsbD_lo (s : State) (r : Reg) {k : Nat} (hk : k < 64) :
    (s.lo r).getLsbD k = (s.reg r).getLsbD k := by
  simp [State.lo, hk]

/-- A bit of the sign-extended immediate is that of the field, or its sign. -/
theorem getLsbD_addressImmediate (imm : BitVec 12) {k : Nat} (hk : k < 64) :
    (addressImmediate imm).getLsbD k = imm.getLsbD (min k 11) := by
  rw [addressImmediate, BitVec.getLsbD_signExtend, BitVec.msb_eq_getLsbD_last]
  split
  · rw [Nat.min_eq_left (by omega)]
    simp [hk]
  · rw [Nat.min_eq_right (by omega)]
    simp [hk]

/-- Every logical instruction on two registers writes a word each bit of which is the form's function of theirs. -/
theorem exec_addressLogicForm {f : (Reg → Reg → Reg → Instr) × (Bool → Bool → Bool)} (hf : f ∈ addressLogicForms)
    (rd rc rb : Reg) (s : State) :
    ∃ a, exec (f.1 rd rc rb) s = addressWrite rd a s ∧
      ∀ k < 64, a.getLsbD k = f.2 ((s.lo rc).getLsbD k) ((s.lo rb).getLsbD k) := by
  unfold addressLogicForms at hf
  fin_cases hf <;> exact ⟨_, rfl, fun k hk => by simp [hk]⟩

/-- Every logical instruction on an immediate writes a word each bit of which is the form's function of theirs. -/
theorem exec_addressLogicImmediateForm {f : (Reg → Reg → BitVec 12 → Instr) × (Bool → Bool → Bool)}
    (hf : f ∈ addressLogicImmediateForms) (rd rc : Reg) (imm : BitVec 12) (s : State) :
    ∃ a, exec (f.1 rd rc imm) s = addressWrite rd a s ∧
      ∀ k < 64, a.getLsbD k = f.2 ((s.lo rc).getLsbD k) ((addressImmediate imm).getLsbD k) := by
  unfold addressLogicImmediateForms at hf
  fin_cases hf <;> exact ⟨_, rfl, fun k hk => by simp [hk]⟩

/-- A bit of the multiplexed word comes from `c` where the mask `d` is set, and from `b` elsewhere. -/
theorem getLsbD_mux {n : Nat} (d c b : BitVec n) {k : Nat} (hk : k < n) :
    ((c &&& d) ||| (b &&& ~~~d)).getLsbD k = if d.getLsbD k then c.getLsbD k else b.getLsbD k := by
  simp only [BitVec.getLsbD_or, BitVec.getLsbD_and, BitVec.getLsbD_not, hk, decide_true, Bool.true_and]
  cases d.getLsbD k <;> simp

/-- Settles O20: each logical instruction writes its function of the bits, an immediate after its extension. -/
theorem addressLogic : Obligations.AddressLogic := by
  refine ⟨fun f hf rd rc rb s => ?_, fun f hf rd rc imm s => ?_, fun rd rc rb ra s => ?_⟩
  · obtain ⟨a, hexec, hbits⟩ := exec_addressLogicForm hf rd rc rb s
    refine ⟨a, fun k hk => ?_, writes64_of_exec hexec⟩
    rw [hbits k hk, s.getLsbD_lo rc hk, s.getLsbD_lo rb hk]
  · obtain ⟨a, hexec, hbits⟩ := exec_addressLogicImmediateForm hf rd rc imm s
    refine ⟨a, fun k hk => ?_, writes64_of_exec hexec⟩
    rw [hbits k hk, s.getLsbD_lo rc hk, getLsbD_addressImmediate imm hk]
  · refine ⟨_, fun k hk => ?_, writes64_of_exec rfl⟩
    rw [getLsbD_mux _ _ _ hk, s.getLsbD_lo rd hk, s.getLsbD_lo rc hk, s.getLsbD_lo rb hk]

/-! ### A.COPY.I and A.RES -/

/-- Settles O29: the word written is the immediate extended, which keeps its value. -/
theorem addressCopyImmediate : Obligations.AddressCopyImmediate := fun _ imm _ =>
  ⟨copyImmediate imm, BitVec.toInt_signExtend_of_le (by decide), rfl⟩

/-- Settles O30: the meaning of A.RES does not read its field. -/
theorem alwaysReserved : Obligations.AlwaysReserved := fun _ _ => raises_of_exec rfl

end Sys2Proof.Machine
end

section
/-! The family 43_branch: the order of the floating-point numbers and the visibility conditions; where a branch goes,
and what the tests of its fields and of its target answer; and the branches that change the privilege level. -/

namespace Sys2Proof

open Sys2Proof.Claims

/-! ### Numbers of IEEE 754 (notes/assumptions/12.md)

The model orders the numbers of a format by exponent and fraction read as one natural number.  The value of a number, in
units of the least subnormal, is a strictly increasing function of that, so it has the same order. -/

/-- The value of the number whose exponent and fraction, of `F` bits, together are `n`. -/
def scaledMagnitude (F n : Nat) : Nat := if n / 2 ^ F = 0 then n % 2 ^ F else (2 ^ F + n % 2 ^ F) * 2 ^ (n / 2 ^ F - 1)

/-- A number given by its exponent and its fraction. -/
theorem scaledMagnitude_add_mul {F m : Nat} (hm : m < 2 ^ F) (e : Nat) :
    scaledMagnitude F (m + 2 ^ F * e) = if e = 0 then m else (2 ^ F + m) * 2 ^ (e - 1) := by
  have hdiv : (m + 2 ^ F * e) / 2 ^ F = e := by
    rw [Nat.add_mul_div_left _ _ (Nat.two_pow_pos F), Nat.div_eq_of_lt hm, Nat.zero_add]
  have hmod : (m + 2 ^ F * e) % 2 ^ F = m := by rw [Nat.add_mul_mod_self_left, Nat.mod_eq_of_lt hm]
  rw [scaledMagnitude, hdiv, hmod]

/-- The least number of the next exponent is larger than every number of this one: its significand is `2^F` where this
one's is at most `2^(F+1) - 1`, and one unit of it is worth two. -/
theorem scaledMagnitude_lt_next_exponent {F m : Nat} (hm : m < 2 ^ F) (e : Nat) :
    scaledMagnitude F (m + 2 ^ F * e) < scaledMagnitude F (0 + 2 ^ F * (e + 1)) := by
  rw [scaledMagnitude_add_mul hm, scaledMagnitude_add_mul (Nat.two_pow_pos F), if_neg (Nat.succ_ne_zero e)]
  cases e with
  | zero => simpa using hm
  | succ e =>
    have htwice : (2 ^ F + 0) * 2 ^ (e + 1) = (2 ^ F + 2 ^ F) * 2 ^ e := by ring
    rw [if_neg (Nat.succ_ne_zero e), Nat.add_sub_cancel, Nat.add_sub_cancel, htwice]
    exact Nat.mul_lt_mul_of_pos_right (Nat.add_lt_add_left hm _) (Nat.two_pow_pos e)

/-- Of two numbers of one exponent, the one with the larger fraction is larger. -/
theorem scaledMagnitude_lt_next_fraction {F m : Nat} (hm : m + 1 < 2 ^ F) (e : Nat) :
    scaledMagnitude F (m + 2 ^ F * e) < scaledMagnitude F (m + 1 + 2 ^ F * e) := by
  rw [scaledMagnitude_add_mul (Nat.lt_of_succ_lt hm), scaledMagnitude_add_mul hm]
  split
  · exact Nat.lt_succ_self m
  · exact Nat.mul_lt_mul_of_pos_right (by omega) (Nat.two_pow_pos _)

theorem scaledMagnitude_lt_succ (F n : Nat) : scaledMagnitude F n < scaledMagnitude F (n + 1) := by
  have hfrac : n % 2 ^ F < 2 ^ F := Nat.mod_lt n (Nat.two_pow_pos F)
  have hn : n = n % 2 ^ F + 2 ^ F * (n / 2 ^ F) := (Nat.mod_add_div n (2 ^ F)).symm
  by_cases htop : n % 2 ^ F + 1 < 2 ^ F
  · have hsucc : n + 1 = n % 2 ^ F + 1 + 2 ^ F * (n / 2 ^ F) := by omega
    have h := scaledMagnitude_lt_next_fraction htop (n / 2 ^ F)
    rwa [← hn, ← hsucc] at h
  · have hsucc : n + 1 = 0 + 2 ^ F * (n / 2 ^ F + 1) := by rw [Nat.mul_succ]; omega
    have h := scaledMagnitude_lt_next_exponent hfrac (n / 2 ^ F)
    rwa [← hn, ← hsucc] at h

theorem scaledMagnitude_strictMono (F : Nat) : StrictMono (scaledMagnitude F) :=
  strictMono_nat_of_lt_succ (scaledMagnitude_lt_succ F)

theorem scaledMagnitude_zero (F : Nat) : scaledMagnitude F 0 = 0 := by
  simp [scaledMagnitude]

/-- The value of the number whose key, by which the model compares it, is `z`. -/
def valueOfKey (F : Nat) (z : Int) : Int := z.sign * scaledMagnitude F z.natAbs

theorem valueOfKey_natCast (F n : Nat) : valueOfKey F n = scaledMagnitude F n := by
  rcases Nat.eq_zero_or_pos n with rfl | hpos
  · simp [valueOfKey, scaledMagnitude_zero]
  · simp [valueOfKey, Int.sign_eq_one_of_pos (Int.natCast_pos.2 hpos)]

theorem valueOfKey_neg (F : Nat) (z : Int) : valueOfKey F (-z) = -valueOfKey F z := by
  rw [valueOfKey, Int.sign_neg, Int.natAbs_neg, neg_mul]
  rfl

/-- The order of the keys is the order of the values. -/
theorem valueOfKey_strictMono (F : Nat) : StrictMono (valueOfKey F) := by
  refine strictMono_of_odd_strictMonoOn_nonneg (valueOfKey_neg F) fun x hx y hy hlt => ?_
  obtain ⟨m, rfl⟩ := Int.eq_ofNat_of_zero_le hx
  obtain ⟨n, rfl⟩ := Int.eq_ofNat_of_zero_le hy
  rw [valueOfKey_natCast, valueOfKey_natCast]
  exact_mod_cast scaledMagnitude_strictMono F (by exact_mod_cast hlt)

theorem FpFormat.toNat_exponent (f : FpFormat) (v : Hexlet) :
    (v.extractLsb' f.fracBits f.expBits).toNat = expField f.expBits f.fracBits v := by
  rw [BitVec.extractLsb'_toNat, Nat.shiftRight_eq_div_pow, expField]

theorem FpFormat.toNat_fraction (f : FpFormat) (v : Hexlet) :
    (v.extractLsb' 0 f.fracBits).toNat = fracField f.fracBits v := by
  rw [BitVec.extractLsb'_toNat, Nat.shiftRight_zero, fracField]

/-- A number that IEEE 754 decodes to a NaN. -/
theorem FpFormat.isNaN_decode (f : FpFormat) (v : Hexlet) :
    (f.decode v).isNaN = true ↔ FpNaN f.expBits f.fracBits v := by
  have hnan : v.extractLsb' f.fracBits f.expBits = BitVec.allOnes f.expBits ∧
      v.extractLsb' 0 f.fracBits ≠ 0#f.fracBits ↔ FpNaN f.expBits f.fracBits v := by
    rw [FpNaN, ne_eq, BitVec.toNat_eq, BitVec.toNat_eq, f.toNat_exponent, f.toNat_fraction, BitVec.toNat_allOnes]
    rfl
  rw [← hnan, FpNumber.isNaN, bne_iff_ne, FpFormat.decode]
  dsimp only
  split
  case isTrue h => exact iff_of_true (by split <;> nofun) h
  case isFalse h => exact iff_of_false (fun hne => hne rfl) h

/-- The magnitude of a number, scaled, is its value without the sign. -/
theorem FpFormat.scaledMagnitude_decode (f : FpFormat) (v : Hexlet) :
    scaledMagnitude f.fracBits (f.decode v).magnitude = fpMagnitude f.expBits f.fracBits v := by
  have hlt : fracField f.fracBits v < 2 ^ f.fracBits := Nat.mod_lt _ (Nat.two_pow_pos _)
  have hmag : (f.decode v).magnitude =
      fracField f.fracBits v + 2 ^ f.fracBits * expField f.expBits f.fracBits v := by
    change (v.extractLsb' f.fracBits f.expBits ++ v.extractLsb' 0 f.fracBits).toNat = _
    rw [BitVec.toNat_append, f.toNat_exponent, f.toNat_fraction, ← Nat.shiftLeft_add_eq_or_of_lt hlt,
      Nat.shiftLeft_eq, Nat.add_comm, Nat.mul_comm]
  rw [hmag, scaledMagnitude_add_mul hlt, fpMagnitude]

/-- The key of a number without its sign stands for its value without its sign. -/
theorem FpFormat.valueOfKey_abs_decode (f : FpFormat) (v : Hexlet) :
    valueOfKey f.fracBits (f.decode v).abs.key = fpMagnitude f.expBits f.fracBits v := by
  rw [← f.scaledMagnitude_decode, ← valueOfKey_natCast]
  rfl

/-- The key of a number stands for its value. -/
theorem FpFormat.valueOfKey_decode (f : FpFormat) (v : Hexlet) :
    valueOfKey f.fracBits (f.decode v).key = fpValue f.expBits f.fracBits v := by
  rw [fpValue, ← f.scaledMagnitude_decode, ← valueOfKey_natCast, ← valueOfKey_neg]
  exact apply_ite (valueOfKey f.fracBits) _ _ _

/-! ### Floating-point conditions -/

/-- The condition on an outcome of `fcom` that the model computes is that of the rules. -/
theorem FpRelation.holds_iff (r : FpRelation) (o : FpOrder) : r.holds o = true ↔ FpOutcome r o := by
  cases r <;> simp [FpRelation.holds, FpOutcome]

/-- `fcom` by IEEE 754 answers one of the three orders when neither operand is a NaN and the keys are in that order. -/
theorem FpNumber.compare_eq_iff (x y : FpNumber) :
    (x.compare y = .less ↔ ¬x.isNaN = true ∧ ¬y.isNaN = true ∧ x.key < y.key) ∧
      (x.compare y = .greater ↔ ¬x.isNaN = true ∧ ¬y.isNaN = true ∧ y.key < x.key) ∧
        (x.compare y = .equal ↔ ¬x.isNaN = true ∧ ¬y.isNaN = true ∧ x.key = y.key) := by
  unfold FpNumber.compare
  split
  case isTrue hnan =>
    have hnone : ∀ p, ¬(¬x.isNaN = true ∧ ¬y.isNaN = true ∧ p) :=
      fun p ⟨hx, hy, _⟩ => (Bool.or_eq_true_iff.1 hnan).elim hx hy
    exact ⟨iff_of_false nofun (hnone _), iff_of_false nofun (hnone _), iff_of_false nofun (hnone _)⟩
  case isFalse hnan =>
    have hnan : ¬x.isNaN = true ∧ ¬y.isNaN = true := by simpa using hnan
    rcases lt_trichotomy x.key y.key with h | h | h
    · simp [hnan, h, h.ne, h.not_gt]
    · simp [hnan, h]
    · simp [hnan, h, h.ne', h.not_gt]

/-- A condition on the outcome of `fcom` by IEEE 754: it holds of no NaN, and otherwise it is that on the keys. -/
theorem fpOutcome_compare_iff (r : FpRelation) (x y : FpNumber) :
    FpOutcome r (x.compare y) ↔ ¬x.isNaN = true ∧ ¬y.isNaN = true ∧ FpCondition r x.key y.key := by
  obtain ⟨hless, hgreater, hequal⟩ := x.compare_eq_iff y
  cases r with
  | e => exact hequal
  | ge => rw [FpOutcome, hgreater, hequal, ← and_or_left, ← and_or_left, FpCondition, le_iff_lt_or_eq,
    eq_comm (a := x.key)]
  | l => exact hless
  | lg => rw [FpOutcome, hless, hgreater, ← and_or_left, ← and_or_left, FpCondition]

/-- A condition on keys is that on the values they stand for. -/
theorem fpCondition_valueOfKey (r : FpRelation) (F : Nat) (x y : Int) :
    FpCondition r (valueOfKey F x) (valueOfKey F y) ↔ FpCondition r x y := by
  have h := valueOfKey_strictMono F
  cases r <;> simp only [FpCondition, h.lt_iff_lt, h.le_iff_le, h.injective.eq_iff]

/-! ### Visibility conditions (43_branch.md rules R546 to R549) -/

/-- The condition of a visibility branch apart from its test for NaNs. -/
def Visibility.test (v : Visibility) (fp : FpFunctions) (f1 : FpNumber) (d c : Hexlet) : Bool :=
  match v with
  | .invisible => fp.triviallyOutside f1 d c
  | .notInvisible => !fp.triviallyOutside f1 d c
  | .notVisible => !(fp.pointVisible f1 d && fp.pointVisible f1 c)
  | .visible => fp.pointVisible f1 d && fp.pointVisible f1 c

theorem Visibility.holds_eq_test (v : Visibility) (fp : FpFunctions) (f1 : FpNumber) (d c : Hexlet) :
    v.holds fp f1 d c = if fp.anyNaN d || fp.anyNaN c then false else v.test fp f1 d c := rfl

/-- A visibility branch is taken by its condition, if there is no NaN. -/
theorem Visibility.holds_iff (v : Visibility) (fp : FpFunctions) (f1 : FpNumber) (d c : Hexlet) :
    v.holds fp f1 d c = true ↔
      ¬(fp.anyNaN d = true ∨ fp.anyNaN c = true) ∧ v.test fp f1 d c = true := by
  rw [← Bool.or_eq_true, Visibility.holds_eq_test]
  split
  case isTrue h => exact iff_of_false nofun fun ht => ht.1 h
  case isFalse h => exact (and_iff_right h).symm

theorem FpFunctions.anyNaN_iff (fp : FpFunctions) (v : Hexlet) :
    fp.anyNaN v = true ↔ ∃ k < 4, (fp.element v k).isNaN = true := by
  simp only [FpFunctions.anyNaN, Bool.or_eq_true]
  constructor
  · rintro (((h | h) | h) | h)
    · exact ⟨0, by decide, h⟩
    · exact ⟨1, by decide, h⟩
    · exact ⟨2, by decide, h⟩
    · exact ⟨3, by decide, h⟩
  · rintro ⟨k, hk, h⟩
    interval_cases k <;> simp only [h, true_or, or_true]

theorem FpFunctions.pointVisible_iff (fp : FpFunctions) (f1 : FpNumber) (v : Hexlet) :
    fp.pointVisible f1 v = true ↔
      fp.compare (fp.abs (fp.element v 0)) (fp.element v 2) = .less ∧
        fp.compare (fp.abs (fp.element v 1)) (fp.element v 2) = .less ∧
        fp.compare (fp.element v 2) f1 = .less ∧ (fp.element v 2).negative = false := by
  simp only [FpFunctions.pointVisible, FpFunctions.isLess, Bool.and_eq_true, beq_iff_eq, Bool.not_eq_true', and_assoc]

theorem FpFunctions.trivialSide_iff (fp : FpFunctions) (p q r t : FpNumber) :
    fp.trivialSide p q r t = true ↔
      fp.compare (fp.abs p) q = .greater ∧ fp.compare (fp.abs r) t = .greater ∧ p.negative = r.negative := by
  simp only [FpFunctions.trivialSide, Bool.and_eq_true, beq_iff_eq, and_assoc]

theorem FpFunctions.triviallyOutside_iff (fp : FpFunctions) (f1 : FpNumber) (d c : Hexlet) :
    fp.triviallyOutside f1 d c = true ↔
      fp.trivialSide (fp.element d 0) (fp.element d 2) (fp.element c 0) (fp.element c 2) = true ∨
        fp.trivialSide (fp.element d 1) (fp.element d 2) (fp.element c 1) (fp.element c 2) = true ∨
        (fp.compare f1 (fp.element d 2) = .less ∧ fp.compare f1 (fp.element c 2) = .less) ∨
        ((fp.element d 2).negative = true ∧ (fp.element c 2).negative = true) := by
  simp only [FpFunctions.triviallyOutside, FpFunctions.isLess, Bool.or_eq_true, Bool.and_eq_true, beq_iff_eq, or_assoc]

/-! ### Singles of IEEE 754 -/

/-- `fcom` of two numbers of one format by IEEE 754, on their values. -/
theorem FpFormat.compare_decode_eq_less (f : FpFormat) (p q : Hexlet) :
    (f.decode p).compare (f.decode q) = .less ↔
      ¬FpNaN f.expBits f.fracBits p ∧ ¬FpNaN f.expBits f.fracBits q ∧
        fpValue f.expBits f.fracBits p < fpValue f.expBits f.fracBits q := by
  rw [((f.decode p).compare_eq_iff (f.decode q)).1, f.isNaN_decode, f.isNaN_decode,
    ← (valueOfKey_strictMono f.fracBits).lt_iff_lt, f.valueOfKey_decode, f.valueOfKey_decode]

/-- A number without its sign is a NaN if the number is. -/
theorem FpFormat.isNaN_abs_decode (f : FpFormat) (v : Hexlet) :
    (f.decode v).abs.isNaN = true ↔ FpNaN f.expBits f.fracBits v := f.isNaN_decode v

theorem FpFormat.compare_abs_decode_eq_less (f : FpFormat) (p q : Hexlet) :
    (f.decode p).abs.compare (f.decode q) = .less ↔
      ¬FpNaN f.expBits f.fracBits p ∧ ¬FpNaN f.expBits f.fracBits q ∧
        (fpMagnitude f.expBits f.fracBits p : Int) < fpValue f.expBits f.fracBits q := by
  rw [((f.decode p).abs.compare_eq_iff (f.decode q)).1, f.isNaN_abs_decode, f.isNaN_decode,
    ← (valueOfKey_strictMono f.fracBits).lt_iff_lt, f.valueOfKey_abs_decode, f.valueOfKey_decode]

theorem FpFormat.compare_abs_decode_eq_greater (f : FpFormat) (p q : Hexlet) :
    (f.decode p).abs.compare (f.decode q) = .greater ↔
      ¬FpNaN f.expBits f.fracBits p ∧ ¬FpNaN f.expBits f.fracBits q ∧
        fpValue f.expBits f.fracBits q < (fpMagnitude f.expBits f.fracBits p : Int) := by
  rw [((f.decode p).abs.compare_eq_iff (f.decode q)).2.1, f.isNaN_abs_decode, f.isNaN_decode,
    ← (valueOfKey_strictMono f.fracBits).lt_iff_lt, f.valueOfKey_abs_decode, f.valueOfKey_decode]

/-- The element of a register under IEEE 754. -/
abbrev singleElement (v : Hexlet) (k : Nat) : FpNumber := FpFormat.single.decode (v >>> (32 * k))

theorem negative_singleElement (v : Hexlet) (k : Nat) : (singleElement v k).negative = elementSign v k :=
  BitVec.getLsbD_ushiftRight v (32 * k) 31

section
variable {v : Hexlet} {j k : Nat}

/-- No element of a register without NaNs is a NaN. -/
theorem not_fpNaN_element (h : ¬SomeNaN v) (hk : k < 4) : ¬FpNaN 8 23 (v >>> (32 * k)) :=
  fun hn => h ⟨k, hk, hn⟩

theorem compare_abs_element_eq_less (h : ¬SomeNaN v) (hj : j < 4) (hk : k < 4) :
    (singleElement v j).abs.compare (singleElement v k) = .less ↔ elementMagnitude v j < elementValue v k :=
  (FpFormat.single.compare_abs_decode_eq_less _ _).trans
    ((and_iff_right (not_fpNaN_element h hj)).trans (and_iff_right (not_fpNaN_element h hk)))

theorem compare_abs_element_eq_greater (h : ¬SomeNaN v) (hj : j < 4) (hk : k < 4) :
    (singleElement v j).abs.compare (singleElement v k) = .greater ↔ elementValue v k < elementMagnitude v j :=
  (FpFormat.single.compare_abs_decode_eq_greater _ _).trans
    ((and_iff_right (not_fpNaN_element h hj)).trans (and_iff_right (not_fpNaN_element h hk)))

end

end Sys2Proof

namespace Sys2Proof.Machine

open Sys2Proof Sys2Proof.Claims

/-! ### Branch targets (43_branch.md rules R501 and R504) -/

/-- Two bits appended are the remainder modulo 4. -/
theorem toNat_append_two_bits {n : Nat} (x : BitVec n) (y : BitVec 2) : (x ++ y).toNat = x.toNat * 4 + y.toNat := by
  rw [BitVec.toNat_append, ← Nat.shiftLeft_add_eq_or_of_lt y.isLt, Nat.shiftLeft_eq]

/-- The target of a register branch is the multiple of 4 at or below the register's number. -/
theorem toNat_wordTarget (r : Octlet) : (wordTarget r).toNat = r.toNat / 4 * 4 := by
  have hlt : r.toNat / 4 < 2 ^ 62 := by have := r.isLt; omega
  rw [wordTarget, toNat_append_two_bits, BitVec.extractLsb'_toNat, Nat.shiftRight_eq_div_pow, Nat.mod_eq_of_lt hlt]
  rfl

/-- A multiple of 4 is its own target. -/
theorem wordTarget_of_multiple {r : Octlet} (h : r.toNat % 4 = 0) : wordTarget r = r := by
  apply BitVec.eq_of_toNat_eq
  rw [toNat_wordTarget]
  omega

/-- The target test, as arithmetic. -/
theorem badTarget_iff {r : Octlet} : badTarget r = true ↔ r.toNat % 4 ≠ 0 := by
  rw [badTarget, bne_iff_ne, ne_eq, BitVec.toNat_eq, BitVec.toNat_setWidth]
  rfl

theorem not_badTarget {r : Octlet} (h : r.toNat % 4 = 0) : ¬badTarget r = true := fun hb => badTarget_iff.1 hb h

/-- The displacement with two zero bits appended is four times the offset. -/
theorem State.branchTarget_eq_branchTo {n : Nat} (s : State) (offset : BitVec n) :
    s.branchTarget offset = branchTo s offset := by
  rw [branchTo, BitVec.ofInt_add, BitVec.ofInt_toInt, State.branchTarget, signExtend_eq_ofInt, BitVec.toInt_append_zero]
  rfl

/-! ### Branches to registers and to offsets -/

/-- A register branch with a field that is not used and not 0, B.BACK, B.GATE and B.HALT with a field that does not hold
what it must: the exception comes before anything else (43_branch.md rule R503). -/
theorem raises_of_reservedFields {i : Instr} (h : ReservedFields i) (s : State) :
    Raises i s .reservedInstruction :=
  raises_of_exec (exec_of_reservedFields h s).2

theorem branchRegister_of_multiple {rd : Reg} {s : State} (h : (s.lo rd).toNat % 4 = 0) (take : Octlet → Result) :
    branchRegister rd 0 0 s take = take (s.lo rd) := by
  rw [branchRegister, if_neg (by simp), if_neg (not_badTarget h), wordTarget_of_multiple h]

theorem branchRegister_of_not_multiple {rd : Reg} {s : State} (h : (s.lo rd).toNat % 4 ≠ 0)
    (take : Octlet → Result) : branchRegister rd 0 0 s take = s.raiseExn badAddress := by
  rw [branchRegister, if_neg (by simp), if_pos (badTarget_iff.2 h)]
  rfl

/-- An instruction that is a 64-bit write and a branch. -/
theorem links_of_exec {i : Instr} {s : State} {rd : Reg} {a t : Octlet}
    (h : exec i s = .next ((s.setReg64 rd a).jump t)) : Links i s rd a t :=
  ⟨s.upperAfter rd a, s.upperHalf_upperAfter rd a, h⟩

theorem execBLink_of_multiple {rc : Reg} {s : State} (h : (s.lo rc).toNat % 4 = 0) (rd : Reg) :
    execBLink rd rc 0 s = .next ((s.setReg64 rd (s.pc + 4#64)).jump (s.lo rc)) := by
  rw [execBLink, if_neg (by simp), if_neg (not_badTarget h), wordTarget_of_multiple h]

theorem execBLink_of_not_multiple {rc : Reg} {s : State} (h : (s.lo rc).toNat % 4 ≠ 0) (rd : Reg) :
    execBLink rd rc 0 s = s.raiseExn badAddress := by
  rw [execBLink, if_neg (by simp), if_pos (badTarget_iff.2 h)]
  rfl

/-- Settles O31: the tests of B, B.BARRIER and B.LINK, in their order, and then the branch. -/
theorem branchesThroughRegister : Obligations.BranchesThroughRegister := by
  intro rd rc rb s
  refine ⟨fun h => ⟨raises_of_reservedFields ?_ s, raises_of_reservedFields ?_ s⟩,
    fun h => raises_of_reservedFields ?_ s, fun h => ⟨?_, ?_⟩, fun h => ⟨raises_of_exec ?_, raises_of_exec ?_⟩,
    fun h => links_of_exec (execBLink_of_multiple h rd), fun h => raises_of_exec (execBLink_of_not_multiple h rd)⟩
  · exact .inr (.inr ⟨rd, rc, rb, .inl ⟨.inl rfl, h⟩⟩)
  · exact .inr (.inr ⟨rd, rc, rb, .inl ⟨.inr (.inl rfl), h⟩⟩)
  · exact .inr (.inr ⟨rd, rc, rb, .inr (.inr (.inr ⟨rfl, h⟩))⟩)
  · exact branchRegister_of_multiple h fun t => .next (s.jump t)
  · exact branchRegister_of_multiple h fun t => .next (s.jump t).fetchBarrier
  · exact branchRegister_of_not_multiple h fun t => .next (s.jump t)
  · exact branchRegister_of_not_multiple h fun t => .next (s.jump t).fetchBarrier

/-- Settles O32: the target of both is `pc` plus the displacement. -/
theorem branchesImmediate : Obligations.BranchesImmediate := by
  intro offset s
  rw [← State.branchTarget_eq_branchTo]
  exact ⟨rfl, links_of_exec rfl⟩

/-! ### Conditional branches -/

/-- An instruction that is a conditional branch on a truth value, which says whether `c` holds. -/
theorem takenWhen_of_exec {i : Instr} {s : State} {offset : BitVec 12} {taken : Bool} {c : Prop}
    (hc : taken = true ↔ c) (h : exec i s = branchIf taken offset s) : TakenWhen i s offset c := by
  rw [TakenWhen, ← hc, GoesTo, GoesOn, h, ← State.branchTarget_eq_branchTo, branchIf]
  exact ⟨fun ht => if_pos ht, fun ht => if_neg ht⟩

/-- Every integer conditional branch is the shared body at the comparison of its form. -/
theorem exec_branchForm {f : Relation × (Reg → Reg → BitVec 12 → Instr)} (hf : f ∈ branchForms) (rd rc : Reg)
    (offset : BitVec 12) (s : State) : exec (f.2 rd rc offset) s = branchIf (s.compares f.1 rd rc) offset s := by
  unfold branchForms at hf
  fin_cases hf <;> rfl

/-- Settles O33: the branch is taken by the comparison. -/
theorem branchesConditional : Obligations.BranchesConditional := fun f hf rd rc offset s =>
  takenWhen_of_exec (s.compares_iff f.1 rd rc) (exec_branchForm hf rd rc offset s)

/-! ### Floating-point branches -/

/-- Every floating-point branch is the shared body at the comparison and the format of its form. -/
theorem exec_floatForm {f : FpRelation × Nat × Nat × (Reg → Reg → BitVec 12 → Instr)} (hf : f ∈ floatForms)
    (rd rc : Reg) (offset : BitVec 12) (s : State) :
    exec (f.2.2.2 rd rc offset) s = branchIf (s.floatCompares f.1 ⟨f.2.1, f.2.2.1⟩ rd rc) offset s := by
  unfold floatForms at hf
  fin_cases hf <;> rfl

/-- The comparison that the model computes under IEEE 754 is the condition on the values of two numbers. -/
theorem State.floatCompares_ieee754 {s : State} (h : s.params.fpCompare = .ieee754) (r : FpRelation) (f : FpFormat)
    (rd rc : Reg) :
    s.floatCompares r f rd rc = true ↔
      ¬FpNaN f.expBits f.fracBits (s.reg rd) ∧ ¬FpNaN f.expBits f.fracBits (s.reg rc) ∧
        FpCondition r (fpValue f.expBits f.fracBits (s.reg rd)) (fpValue f.expBits f.fracBits (s.reg rc)) := by
  rw [State.floatCompares, State.fp_ieee754 h, FpRelation.holds_iff, fpOutcome_compare_iff, f.isNaN_decode,
    f.isNaN_decode, ← fpCondition_valueOfKey r f.fracBits, f.valueOfKey_decode, f.valueOfKey_decode]

/-- Under free functions it is the condition on the outcome of the free `fcom`. -/
theorem State.floatCompares_abstract {s : State} (h : s.params.fpCompare = .abstract) (r : FpRelation) (f : FpFormat)
    (rd rc : Reg) :
    s.floatCompares r f rd rc = true ↔
      FpOutcome r (Config.fpCompare (freeNumber f.size (s.reg rd)) (freeNumber f.size (s.reg rc))) := by
  rw [State.floatCompares, State.fp_abstract h, FpRelation.holds_iff]
  rfl

/-- Settles O34: the branch is taken by the comparison, which under each value of the parameter is the condition. -/
theorem branchesFloat : Obligations.BranchesFloat := by
  intro f hf rd rc offset s
  have hexec := exec_floatForm hf rd rc offset s
  exact ⟨fun h => takenWhen_of_exec (State.floatCompares_ieee754 h _ _ rd rc) hexec,
    fun h => takenWhen_of_exec (State.floatCompares_abstract h _ _ rd rc) hexec⟩

/-! ### Visibility branches -/

/-- The four visibility branches, from what the three tests they are made of say. -/
theorem visibilityBranches_of_tests {rd rc : Reg} {s : State} {nan outside inside : Prop}
    (hnan : s.fp.anyNaN (s.reg rd) = true ∨ s.fp.anyNaN (s.reg rc) = true ↔ nan)
    (hout : ¬nan → (s.fp.triviallyOutside s.f1 (s.reg rd) (s.reg rc) = true ↔ outside))
    (hin : ¬nan → ((s.fp.pointVisible s.f1 (s.reg rd) && s.fp.pointVisible s.f1 (s.reg rc)) = true ↔ inside))
    (offset : BitVec 12) : VisibilityBranches rd rc offset s nan outside inside := by
  have hsees : ∀ {v : Visibility} {p : Prop}, (¬nan → (v.test s.fp s.f1 (s.reg rd) (s.reg rc) = true ↔ p)) →
      (s.sees v rd rc = true ↔ ¬nan ∧ p) := by
    intro v p hp
    rw [State.sees, Visibility.holds_iff, hnan]
    exact and_congr_right hp
  have hnot : ∀ {b : Bool} {p : Prop}, (b = true ↔ p) → ((!b) = true ↔ ¬p) := fun h => by simp [← h]
  exact ⟨takenWhen_of_exec (hsees (v := .invisible) hout) rfl,
    takenWhen_of_exec (hsees (v := .notInvisible) fun h => hnot (hout h)) rfl,
    takenWhen_of_exec (hsees (v := .notVisible) fun h => hnot (hin h)) rfl,
    takenWhen_of_exec (hsees (v := .visible) hin) rfl⟩

section
variable {s : State} (h : s.params.fpCompare = .ieee754)
include h

theorem State.element_ieee754 (v : Hexlet) (k : Nat) : s.fp.element v k = singleElement v k := by
  rw [State.fp_ieee754 h]
  rfl

theorem State.f1_ieee754 : s.f1 = FpFormat.single.decode (s.params.f1Const.setWidth 128) := by
  rw [State.f1, State.fp_ieee754 h]

theorem State.compare_ieee754 : s.fp.compare = FpNumber.compare := by
  rw [State.fp_ieee754 h]

theorem State.abs_ieee754 : s.fp.abs = FpNumber.abs := by
  rw [State.fp_ieee754 h]

theorem State.anyNaN_ieee754 (v : Hexlet) : s.fp.anyNaN v = true ↔ SomeNaN v := by
  simp only [FpFunctions.anyNaN_iff, State.element_ieee754 h, FpFormat.isNaN_decode]
  rfl

theorem State.compare_f1_element {v : Hexlet} (hv : ¬SomeNaN v) {k : Nat} (hk : k < 4) :
    s.f1.compare (singleElement v k) = .less ↔ AboveF1 s (elementValue v k) := by
  rw [State.f1_ieee754 h, FpFormat.compare_decode_eq_less]
  exact and_congr_right fun _ => and_iff_right (not_fpNaN_element hv hk)

theorem State.compare_element_f1 {v : Hexlet} (hv : ¬SomeNaN v) {k : Nat} (hk : k < 4) :
    (singleElement v k).compare s.f1 = .less ↔ BelowF1 s (elementValue v k) := by
  rw [State.f1_ieee754 h, FpFormat.compare_decode_eq_less]
  exact and_iff_right (not_fpNaN_element hv hk)

theorem State.pointVisible_ieee754 {v : Hexlet} (hv : ¬SomeNaN v) :
    s.fp.pointVisible s.f1 v = true ↔ Inside s v := by
  rw [FpFunctions.pointVisible_iff]
  simp only [State.element_ieee754 h, State.compare_ieee754 h, State.abs_ieee754 h]
  rw [compare_abs_element_eq_less hv (by decide) (by decide), compare_abs_element_eq_less hv (by decide) (by decide),
    State.compare_element_f1 h hv (by decide), negative_singleElement]
  rfl

theorem State.trivialSide_ieee754 {d c : Hexlet} (hd : ¬SomeNaN d) (hc : ¬SomeNaN c) {k : Nat} (hk : k < 4) :
    s.fp.trivialSide (s.fp.element d k) (s.fp.element d 2) (s.fp.element c k) (s.fp.element c 2) = true ↔
      elementValue d 2 < elementMagnitude d k ∧ elementValue c 2 < elementMagnitude c k ∧
        elementSign d k = elementSign c k := by
  rw [FpFunctions.trivialSide_iff]
  simp only [State.element_ieee754 h, State.compare_ieee754 h, State.abs_ieee754 h]
  rw [compare_abs_element_eq_greater hd hk (by decide), compare_abs_element_eq_greater hc hk (by decide),
    negative_singleElement, negative_singleElement]

theorem State.triviallyOutside_ieee754 {d c : Hexlet} (hd : ¬SomeNaN d) (hc : ¬SomeNaN c) :
    s.fp.triviallyOutside s.f1 d c = true ↔ Outside s d c := by
  rw [FpFunctions.triviallyOutside_iff, State.trivialSide_ieee754 h hd hc (by decide),
    State.trivialSide_ieee754 h hd hc (by decide), State.compare_ieee754 h]
  simp only [State.element_ieee754 h]
  rw [State.compare_f1_element h hd (by decide), State.compare_f1_element h hc (by decide), negative_singleElement,
    negative_singleElement]
  rfl

end

section
variable {s : State} (h : s.params.fpCompare = .abstract)
include h

theorem State.element_abstract (v : Hexlet) (k : Nat) : s.fp.element v k = freeElement v k := by
  rw [State.fp_abstract h, freeElement, ← BitVec.setWidth_ushiftRight_eq_extractLsb]
  rfl

theorem State.f1_abstract : s.f1 = Config.fpDecode 32 s.params.f1Const := by
  have hlow : (s.params.f1Const.setWidth 128).setWidth 32 = s.params.f1Const := by simp
  rw [State.f1, State.fp_abstract h]
  exact congrArg (Config.fpDecode 32) hlow

theorem State.compare_abstract : s.fp.compare = Config.fpCompare := by
  rw [State.fp_abstract h]

theorem State.abs_abstract : s.fp.abs = Config.fpAbs := by
  rw [State.fp_abstract h]

theorem State.anyNaN_abstract (v : Hexlet) : s.fp.anyNaN v = true ↔ FreeSomeNaN v := by
  simp only [FpFunctions.anyNaN_iff, State.element_abstract h, FpNumber.isNaN, bne_iff_ne]
  rfl

theorem State.pointVisible_abstract (v : Hexlet) : s.fp.pointVisible s.f1 v = true ↔ FreeInside s v := by
  simp only [FpFunctions.pointVisible_iff, State.element_abstract h, State.compare_abstract h, State.abs_abstract h,
    State.f1_abstract h]
  rfl

theorem State.trivialSide_abstract (d c : Hexlet) (k : Nat) :
    s.fp.trivialSide (s.fp.element d k) (s.fp.element d 2) (s.fp.element c k) (s.fp.element c 2) = true ↔
      FreeBeyond (freeElement d k) (freeElement d 2) ∧ FreeBeyond (freeElement c k) (freeElement c 2) ∧
        (freeElement d k).negative = (freeElement c k).negative := by
  simp only [FpFunctions.trivialSide_iff, State.element_abstract h, State.compare_abstract h, State.abs_abstract h]
  rfl

theorem State.triviallyOutside_abstract (d c : Hexlet) :
    s.fp.triviallyOutside s.f1 d c = true ↔ FreeOutside s d c := by
  rw [FpFunctions.triviallyOutside_iff, State.trivialSide_abstract h, State.trivialSide_abstract h, ← or_assoc,
    State.compare_abstract h, State.f1_abstract h, FreeOutside, Nat.exists_lt_succ_right, Nat.exists_lt_succ_right]
  simp only [State.element_abstract h]
  simp [FreeLess]

end

/-- Settles O35: the three tests, under each value of the parameter. -/
theorem branchesVisibility : Obligations.BranchesVisibility := by
  refine fun rd rc offset s => ⟨fun h => visibilityBranches_of_tests ?_ (fun hnan => ?_) (fun hnan => ?_) offset,
    fun h => visibilityBranches_of_tests ?_ (fun _ => ?_) (fun _ => ?_) offset⟩
  · rw [State.anyNaN_ieee754 h, State.anyNaN_ieee754 h]
  · obtain ⟨hd, hc⟩ := not_or.1 hnan
    exact State.triviallyOutside_ieee754 h hd hc
  · obtain ⟨hd, hc⟩ := not_or.1 hnan
    rw [Bool.and_eq_true, State.pointVisible_ieee754 h hd, State.pointVisible_ieee754 h hc]
  · rw [State.anyNaN_abstract h, State.anyNaN_abstract h]
  · exact State.triviallyOutside_abstract h _ _
  · rw [Bool.and_eq_true, State.pointVisible_abstract h, State.pointVisible_abstract h]

/-! ### Branches that change the level (43_branch.md rules R520, R555 and R560) -/

/-- The level that a register names: its number modulo 4. -/
theorem toNat_setWidth_level (r : Octlet) : (r.setWidth 2).toNat = r.toNat % 4 := BitVec.toNat_setWidth 2 r

/-- The level is lowered to the lower of itself and the one named. -/
theorem State.toNat_lowerPrivilege (s : State) (p : Level) :
    (s.lowerPrivilege p).privilegeLevel.toNat = min s.privilegeLevel.toNat p.toNat := by
  rw [State.lowerPrivilege_privilegeLevel]
  split
  case isTrue h => exact (min_eq_right (BitVec.le_of_lt h)).symm
  case isFalse h => exact (min_eq_left (BitVec.not_lt.1 h)).symm

/-- Settles O36: the level lowered and the target of a register branch. -/
theorem branchDown : Obligations.BranchDown := by
  intro rd rc rb s
  refine ⟨fun h => raises_of_reservedFields (.inr (.inr ⟨rd, rc, rb, .inl ⟨.inr (.inr rfl), h⟩⟩)) s,
    (s.lowerPrivilege ((s.lo rd).setWidth 2)).privilegeLevel, wordTarget (s.lo rd), ?_, toNat_wordTarget _, rfl⟩
  rw [State.toNat_lowerPrivilege, toNat_setWidth_level]

/-- B.BACK whose fields are 0 is the return from an exception. -/
theorem exec_bBack (s : State) : exec (.bBack 0 0 0) s = s.returnFromException := rfl

/-- Settles O37: the load of `x[0]` decides whether the return is made. -/
theorem branchBack : Obligations.BranchBack := by
  intro s
  refine ⟨fun rd rc rb h => raises_of_reservedFields (.inr (.inr ⟨rd, rc, rb, .inr (.inl ⟨.inl rfl, h⟩)⟩)) s,
    fun pa a hm hh => ⟨(s.lowerPrivilege ((s.lo 0).setWidth 2)).privilegeLevel, wordTarget (s.lo 0), ?_,
      toNat_wordTarget _, ?_⟩, fun e he => raises_of_exec ?_⟩
  · rw [State.toNat_lowerPrivilege, toNat_setWidth_level]
  · rw [exec_bBack, State.returnFromException, State.loadMemory_of_holds (by decide) hm hh]
    rfl
  · rw [exec_bBack, State.returnFromException, State.loadMemory_of_span_raised (State.span_of_translationRaises he)]
    rfl

/-! ### B.GATE (43_branch.md rule R560) -/

/-- The link of B.GATE: the address of the next instruction, modulo 2^64, with the level in the two low bits. -/
theorem toNat_gatewayLink (pc : Octlet) (p : Level) :
    ((pc.extractLsb' 2 62 + 1#62) ++ p).toNat = (pc.toNat / 4 + 1) % 2 ^ 62 * 4 + p.toNat := by
  rw [toNat_append_two_bits, BitVec.toNat_add, BitVec.extractLsb'_toNat, Nat.shiftRight_eq_div_pow, Nat.mod_add_mod]
  rfl

section
variable {rb : Reg} {s : State}

/-- The end of B.GATE, in the words of the rule: the link and the target are those of `d` and `t`. -/
theorem enterGateway_eq {d t : Octlet}
    (hd : d.toNat = (s.pc.toNat / 4 + 1) % 2 ^ 62 * 4 + s.privilegeLevel.toNat)
    (ht : t.toNat = (s.lo rb).toNat / 4 * 4) (u : State) : enterGateway rb u s = (u.setReg64 0 d).jump t := by
  have hlink : (s.pc.extractLsb' 2 62 + 1#62) ++ s.privilegeLevel = d :=
    BitVec.eq_of_toNat_eq ((toNat_gatewayLink _ _).trans hd.symm)
  have htarget : wordTarget (s.lo rb) = t := BitVec.eq_of_toNat_eq ((toNat_wordTarget _).trans ht.symm)
  rw [enterGateway, hlink, htarget]

/-- B.GATE with an address that is no multiple of 8, whatever the level asked for. -/
theorem exec_bGate_of_misaligned (h : (s.lo 1).toNat % 8 ≠ 0) : exec (.bGate 0 1 rb) s = s.raiseExn badAddress := by
  have hmis : misaligned (s.lo 1) 64 = true := misaligned_of_not_baseAligned (rc := 1) isAccessSize_octlet h
  change execBGate 0 1 rb s = _
  rw [execBGate, if_neg (by decide), if_pos hmis]
  rfl

/-- B.GATE with a level asked for that is not above the current one. -/
theorem exec_bGate_of_le (h : (s.lo 1).toNat % 8 = 0) (hle : (s.lo rb).toNat % 4 ≤ s.privilegeLevel.toNat) :
    exec (.bGate 0 1 rb) s = .next (enterGateway rb s s) := by
  have hmis : misaligned (s.lo 1) 64 = false := (misaligned_eq_false_iff (rc := 1) isAccessSize_octlet).2 h
  have hlevel : ¬s.privilegeLevel < (s.lo rb).setWidth 2 := by
    rw [BitVec.lt_def, toNat_setWidth_level]
    exact not_lt.2 hle
  change execBGate 0 1 rb s = _
  rw [execBGate, if_neg (by decide), if_neg (Bool.eq_false_iff.1 hmis), if_neg hlevel]

/-- B.GATE with a level asked for that is above the current one: the gateway is read, and must hold the word. -/
theorem exec_bGate_of_lt (h : (s.lo 1).toNat % 8 = 0) (hlt : s.privilegeLevel.toNat < (s.lo rb).toNat % 4) :
    exec (.bGate 0 1 rb) s = (s.loadMemory .gateway (s.lo 1) (s.lo 1) 64 .little).andThen s fun m =>
      if s.lo rb ≠ m then s.raiseExn .gatewayDisallowed
      else .next (enterGateway rb (s.setPrivilege ((s.lo rb).setWidth 2)) s) := by
  have hmis : misaligned (s.lo 1) 64 = false := (misaligned_eq_false_iff (rc := 1) isAccessSize_octlet).2 h
  have hlevel : s.privilegeLevel < (s.lo rb).setWidth 2 := by
    rw [BitVec.lt_def, toNat_setWidth_level]
    exact hlt
  change execBGate 0 1 rb s = _
  rw [execBGate, if_neg (by decide), if_neg (Bool.eq_false_iff.1 hmis), if_pos hlevel]

end

/-- Settles O38: a gateway that holds the word grants its level, and none is read where the level is not above. -/
theorem gatewayEnters : Obligations.GatewayEnters := by
  intro rb s d t hb hd ht
  refine ⟨fun pa p hlt hp hm hh => ⟨s.upperAfter 0 d, s.upperHalf_upperAfter 0 d, ?_⟩,
    fun hle => links_of_exec ?_⟩
  · have hlevel : (s.lo rb).setWidth 2 = p := BitVec.eq_of_toNat_eq ((toNat_setWidth_level _).trans hp.symm)
    rw [exec_bGate_of_lt hb hlt, State.loadMemory_of_holds (by decide) hm hh, Access.andThen_ok,
      if_neg (not_not.2 rfl), enterGateway_eq hd ht, hlevel]
    rfl
  · rw [exec_bGate_of_le hb hle, enterGateway_eq hd ht]

/-- Settles O39: the tests of B.GATE, in their order. -/
theorem gatewayRaises : Obligations.GatewayRaises := by
  intro rb s
  refine ⟨fun rd rc h => raises_of_reservedFields (.inr (.inr ⟨rd, rc, rb, .inr (.inr (.inl ⟨rfl, h⟩))⟩)) s,
    fun h => raises_of_exec (exec_bGate_of_misaligned h),
    fun hb hlt => ⟨fun e he => raises_of_exec ?_, fun pa m hm hh hne => raises_of_exec ?_⟩⟩
  · rw [exec_bGate_of_lt hb hlt, State.loadMemory_of_span_raised (State.span_of_translationRaises he),
      Access.andThen_raised]
  · rw [exec_bGate_of_lt hb hlt, State.loadMemory_of_holds (by decide) hm hh, Access.andThen_ok, if_pos hne.symm]

/-! ### B.HALT, B.HINT and B.HINT.I (43_branch.md rules R565 to R569) -/

/-- A step of a halted machine leaves it as it is. -/
theorem step_of_halted {s : State} (h : s.halted = true) : step s = .next s := by
  rw [step, if_pos h]

theorem execBHint_of_multiple {rd : Reg} {s : State} (h : (s.lo rd).toNat % 4 = 0) (count simm : BitVec 6) :
    execBHint rd count simm s = .next s.advance := by
  rw [execBHint, if_neg (not_badTarget h)]

theorem execBHint_of_not_multiple {rd : Reg} {s : State} (h : (s.lo rd).toNat % 4 ≠ 0) (count simm : BitVec 6) :
    execBHint rd count simm s = s.raiseExn badAddress := by
  rw [execBHint, if_pos (badTarget_iff.2 h)]
  rfl

/-- Settles O40: B.HALT sets the halt, and of the hints only B.HINT has a test, that of its target. -/
theorem haltAndHints : Obligations.HaltAndHints := by
  intro rd rc rb n m offset s
  exact ⟨fun h => raises_of_reservedFields (.inr (.inr ⟨rd, rc, rb, .inr (.inl ⟨.inr rfl, h⟩)⟩)) s, rfl,
    step_of_halted, rfl, fun h => execBHint_of_multiple h n m,
    fun h => raises_of_exec (execBHint_of_not_multiple h n m)⟩

end Sys2Proof.Machine
end

section
/-! The family 44_store_atomic: what a `lock` block that returns the old octlet leaves, with or without a store, and
S.D.C.S by the two octlets that it loads. -/

namespace Sys2Proof.Machine

open Sys2Proof Sys2Proof.Claims

/-! ### The swaps of one octlet (44_store_atomic.md rules R602 and R603) -/

/-- The instruction stores `m` in the place of the old octlet `a`, returns `a` by a 64-bit write of `x[rd]`, and goes
on: the answer that the obligations of this family ask of a swap. -/
def Swaps (i : Instr) (s : State) (rd : Reg) (pa : Nat → Nat) (ord : ByteOrder) (a m : Octlet) : Prop :=
  ∃ t u, UpperHalf s rd a u ∧ exec i s = .next t ∧
    t = { s with
          pc := s.pc + 4#64, regs := s.regs.set rd.toNat (u ++ a) rd.isLt, draws := s.draws + 1
          mem := t.mem, stale := t.stale } ∧
    StoredAt s t pa ord 64 m

/-- A `lock` block that has nothing to store in the place of the octlet: it ends in the state as it is. -/
theorem lockedOctlet_of_holds_none {ord : ByteOrder} {rc : Reg} {va : Octlet} {s : State}
    {update : Octlet → Option Octlet} {pa : Nat → Nat} {a : Octlet} (hb : BaseAligned s rc 64)
    (hm : s.Maps .write (s.lo rc) va 8 pa) (hh : s.mem.Holds pa ord 64 a) (hu : update a = none)
    (finish : Octlet → State → State) :
    lockedOctlet ord rc va s update finish = .next (finish a s).advance := by
  have hmis : misaligned (s.lo rc) 64 = false := (misaligned_eq_false_iff isAccessSize_octlet).2 hb
  rw [lockedOctlet, if_neg (by simp [hmis]), State.loadMemory_of_holds (size := 64) (by decide) hm hh,
    Access.andThen_ok, hu]

section
variable {i : Instr} {ord : ByteOrder} {rd rc : Reg} {va : Octlet} {s : State} {update : Octlet → Option Octlet}
variable {pa : Nat → Nat} {a m : Octlet}

/-- A `lock` block that returns the old octlet and has one to store is a swap. -/
theorem swaps_of_lockedOctlet (hexec : exec i s = lockedOctlet ord rc va s update fun a t => t.setReg64 rd a)
    (hb : BaseAligned s rc 64) (hm : s.Maps .write (s.lo rc) va 8 pa) (hh : s.mem.Holds pa ord 64 a)
    (hu : update a = some m) : Swaps i s rd pa ord a m := by
  obtain ⟨t, ht, hrest, hstored⟩ := lockedOctlet_of_holds hb hm hh hu fun a t => t.setReg64 rd a
  refine ⟨(t.setReg64 rd a).advance, s.upperAfter rd a, s.upperHalf_upperAfter rd a, hexec.trans ht, ?_, hstored⟩
  rw [hrest]
  rfl

/-- A `lock` block that returns the old octlet and has none to store only writes the register. -/
theorem writes64_of_lockedOctlet (hexec : exec i s = lockedOctlet ord rc va s update fun a t => t.setReg64 rd a)
    (hb : BaseAligned s rc 64) (hm : s.Maps .write (s.lo rc) va 8 pa) (hh : s.mem.Holds pa ord 64 a)
    (hu : update a = none) : Writes64 i s rd a :=
  writes64_of_exec (hexec.trans (lockedOctlet_of_holds_none hb hm hh hu fun a t => t.setReg64 rd a))

end

/-- Settles O15: both swaps are `lock` blocks that always store, the one the sum and the other the merge. -/
theorem addAndMultiplexSwaps : Obligations.AddAndMultiplexSwaps := by
  refine ⟨fun f hf rd rc p s pa a hb hm hh => ?_, fun f hf rd rc p s pa a m hb hm hh hmux => ?_⟩
  · have hsum : s.lo rd + a = BitVec.ofNat 64 ((s.lo rd).toNat + a.toNat) := rfl
    exact swaps_of_lockedOctlet (exec_addSwapForm hf rd rc p s) hb hm hh (congrArg some hsum)
  · obtain rfl := multiplexes_iff.1 hmux
    exact swaps_of_lockedOctlet (exec_multiplexSwapForm hf rd rc p s) hb hm hh rfl

/-- Settles O16: the `lock` block of a compare swap stores on a match and not otherwise. -/
theorem compareSwaps : Obligations.CompareSwaps := by
  intro f hf rd rc p s pa a hb hm hh
  have hexec := exec_compareSwapForm hf rd rc p s
  exact ⟨fun hmatch => swaps_of_lockedOctlet hexec hb hm hh (if_pos hmatch),
    fun hne => writes64_of_lockedOctlet hexec hb hm hh (if_neg hne)⟩

/-! ### S.D.C.S (44_store_atomic.md rules R601 and R604) -/

/-- Two pairs of octlets are equal as 128 bits when each octlet is. -/
theorem append_octlets_inj {u v x y : Octlet} : u ++ v = x ++ y ↔ u = x ∧ v = y := by
  refine ⟨fun h => ⟨?_, ?_⟩, fun ⟨hu, hv⟩ => by rw [hu, hv]⟩
  · simpa using congrArg (fun z : Hexlet => z.extractLsb' 64 64) h
  · simpa using congrArg (fun z : Hexlet => z.setWidth 64) h

/-- A load of bytes that map answers a value, whatever they hold. -/
theorem State.loadMemory_of_maps {s : State} {kind : AccessKind} {ba va : Octlet} {size : Nat} {pa : Nat → Nat}
    (hm : s.Maps kind ba va (size / 8) pa) (ord : ByteOrder) : ∃ v, s.loadMemory kind ba va size ord = .ok v :=
  ⟨_, by rw [State.loadMemory, State.span_of_maps hm]⟩

/-- The next octlet to be stored sees the translation that the last one saw: a store leaves what decides it. -/
theorem State.Maps.of_stored {s t : State} {kind : AccessKind} {ba va : Octlet} {n : Nat} {pa : Nat → Nat}
    (h : s.Maps kind ba va n pa) (ht : t = { s with mem := t.mem, stale := t.stale }) : t.Maps kind ba va n pa :=
  h.congr (by rw [ht]) (by rw [ht])

section
variable {ord : ByteOrder} {rd rc rb : Reg} {s : State} (hc : BaseAligned s rc 64) (hb : BaseAligned s rb 64)
include hc hb

/-- Two aligned addresses pass the test of S.D.C.S. -/
theorem not_misaligned_or : ¬(misaligned (s.lo rc) 64 || misaligned (s.lo rb) 64) = true := by
  rw [(misaligned_eq_false_iff isAccessSize_octlet).2 hc, (misaligned_eq_false_iff isAccessSize_octlet).2 hb]
  decide

/-- S.D.C.S takes the exception of the octlet at the `rc` address. -/
theorem doubleCompareSwap_of_raised_first {e : AccessFault} (he : s.span .write (s.lo rc) (s.lo rc) 8 = .raised e) :
    doubleCompareSwap ord rd rc rb s = s.raiseExn (.access e) := by
  rw [doubleCompareSwap, if_neg (not_misaligned_or hc hb), State.loadMemory_of_span_raised he, Access.andThen_raised]

/-- S.D.C.S takes the exception of the octlet at the `rb` address where the other octlet was loaded. -/
theorem doubleCompareSwap_of_raised_second {e : AccessFault} {pa : Nat → Nat}
    (hm : s.Maps .write (s.lo rc) (s.lo rc) 8 pa) (he : s.span .write (s.lo rb) (s.lo rb) 8 = .raised e) :
    doubleCompareSwap ord rd rc rb s = s.raiseExn (.access e) := by
  obtain ⟨a, ha⟩ := State.loadMemory_of_maps (size := 64) hm ord
  rw [doubleCompareSwap, if_neg (not_misaligned_or hc hb), ha, Access.andThen_ok, State.loadMemory_of_span_raised he,
    Access.andThen_raised]

section
variable {pa pb : Nat → Nat} {a b : Octlet} (hma : s.Maps .write (s.lo rc) (s.lo rc) 8 pa)
  (hmb : s.Maps .write (s.lo rb) (s.lo rb) 8 pb) (hha : s.mem.Holds pa ord 64 a) (hhb : s.mem.Holds pb ord 64 b)
include hma hmb hha hhb

/-- Where both octlets map, S.D.C.S loads what memory holds and compares it octlet by octlet. -/
theorem doubleCompareSwap_of_holds :
    doubleCompareSwap ord rd rc rb s =
      if a = s.hi rc ∧ b = s.hi rb then
        (s.storeMemory (s.lo rc) (s.lo rc) 64 ord (s.hi rd)).andThen s fun u =>
          (u.storeMemory (s.lo rb) (s.lo rb) 64 ord (s.lo rd)).andThen s fun t =>
            .next (t.setReg rd (a ++ b)).advance
      else .next (s.setReg rd (a ++ b)).advance := by
  rw [doubleCompareSwap, if_neg (not_misaligned_or hc hb), State.loadMemory_of_holds (size := 64) (by decide) hma hha,
    Access.andThen_ok, State.loadMemory_of_holds (size := 64) (by decide) hmb hhb, Access.andThen_ok]
  simp only [append_octlets_inj, eq_comm]

/-- S.D.C.S with both octlets as expected: the one at the `rc` address is stored, then, in the state so reached, the one
at the `rb` address, and then the register is written. -/
theorem doubleCompareSwap_of_match (h : a = s.hi rc ∧ b = s.hi rb) :
    ∃ u t, doubleCompareSwap ord rd rc rb s = .next (t.setReg rd (a ++ b)).advance ∧
      t = { s with mem := t.mem, stale := t.stale } ∧ StoredAt s u pa ord 64 (s.hi rd) ∧
      StoredAt u t pb ord 64 (s.lo rd) := by
  obtain ⟨u, hu, hurest, hustored⟩ := State.storeMemory_storedAt (size := 64) hma ord (s.hi rd)
  have hmb' : u.Maps .write (s.lo rb) (s.lo rb) 8 pb := hmb.of_stored hurest
  obtain ⟨t, ht, htrest, htstored⟩ := State.storeMemory_storedAt (size := 64) hmb' ord (s.lo rd)
  refine ⟨u, t, ?_, by rw [htrest, hurest], hustored, htstored⟩
  rw [doubleCompareSwap_of_holds hc hb hma hmb hha hhb, if_pos h, hu, Access.andThen_ok, ht, Access.andThen_ok]

/-- S.D.C.S with an octlet that is not as expected only writes the register. -/
theorem doubleCompareSwap_of_mismatch (h : ¬(a = s.hi rc ∧ b = s.hi rb)) :
    doubleCompareSwap ord rd rc rb s = .next (s.setReg rd (a ++ b)).advance := by
  rw [doubleCompareSwap_of_holds hc hb hma hmb hha hhb, if_neg h]

end
end

/-- Settles O17: the comparison of 128 bits is that of both octlets, and decides between two stores and none. -/
theorem doubleCompareSwaps : Obligations.DoubleCompareSwaps := by
  intro f hf rd rc rb s pa pb a b hc hb hma hmb hha hhb
  refine ⟨fun hmatch => ?_, fun hne => ?_⟩
  · obtain ⟨u, t, ht, hrest, hfirst, hsecond⟩ := doubleCompareSwap_of_match (rd := rd) hc hb hma hmb hha hhb hmatch
    refine ⟨(t.setReg rd (a ++ b)).advance, u, (exec_doubleSwapForm hf rd rc rb s).trans ht, ?_, hfirst, hsecond⟩
    rw [hrest]
    rfl
  · exact (exec_doubleSwapForm hf rd rc rb s).trans (doubleCompareSwap_of_mismatch hc hb hma hmb hha hhb hne)

/-- Settles O18: the two loads come before every store, the one at the `rc` address first. -/
theorem doubleCompareSwapRaises : Obligations.DoubleCompareSwapRaises := by
  intro f hf rd rc rb s e hc hb
  have hexec := exec_doubleSwapForm hf rd rc rb s
  refine ⟨fun he => raises_of_exec (hexec.trans ?_), fun ⟨pa, hm⟩ he => raises_of_exec (hexec.trans ?_)⟩
  · exact doubleCompareSwap_of_raised_first hc hb (State.span_of_translationRaises he)
  · exact doubleCompareSwap_of_raised_second hc hb hm (State.span_of_translationRaises he)

end Sys2Proof.Machine
end

section
/-! The family 45_group_arith: a register made of lanes, read lane by lane; what an instruction that ends in a 128-bit
write has done; and the sums, halves and immediates of one lane as integers.  The lemmas on lanes and on the write hold
at every lane size, so that the group immediate instructions may use them too. -/

namespace Sys2Proof.Machine

open Sys2Proof Sys2Proof.Claims

/-! ### Lanes (45_group_arith.md rule R700) -/

/-- The lane that the model reads is the one the statements speak of. -/
theorem lane_eq_laneOf (size : Nat) (s : State) (r : Reg) (k : Nat) : lane size (s.reg r) k = laneOf s r size k := by
  rw [lane, laneOf, Nat.mul_comm]

/-- A value placed at lane `n` is seen in that lane and in no other. -/
theorem extractLsb'_placedLane {size k : Nat} (hk : (k + 1) * size ≤ 128) (n : Nat) (x : BitVec size) :
    (x.setWidth 128 <<< (n * size)).extractLsb' (size * k) size = if k = n then x else 0#size := by
  apply BitVec.eq_of_getLsbD_eq
  intro i hi
  have hpos : size * k + i < 128 := by linarith
  rw [BitVec.getLsbD_extractLsb', BitVec.getLsbD_shiftLeft, BitVec.getLsbD_setWidth]
  rcases Nat.lt_trichotomy k n with hlt | rfl | hgt
  · have hbelow : size * k + i < n * size := by nlinarith
    simp [hlt.ne, hbelow]
  · simp [hi, hpos, show i < 128 by omega, Nat.mul_comm k]
  · have habove : size ≤ size * k + i - n * size := Nat.le_sub_of_add_le (by nlinarith)
    simp [hgt.ne', BitVec.getLsbD_of_ge x _ habove]

/-- The lanes of a register made of its first `n` lanes: `f`, and zeros beyond. -/
theorem extractLsb'_packLanes {size k : Nat} (hk : (k + 1) * size ≤ 128) (n : Nat) (f : Nat → BitVec size) :
    (packLanes size n f).extractLsb' (size * k) size = if k < n then f k else 0#size := by
  induction n with
  | zero => simp [packLanes]
  | succ n ih =>
    rw [packLanes, BitVec.extractLsb'_or, ih, extractLsb'_placedLane hk]
    rcases Nat.lt_trichotomy k n with hlt | rfl | hgt
    · simp [hlt, hlt.ne, Nat.lt_succ_of_lt hlt]
    · simp
    · simp [hgt.ne', show ¬k < n by omega, show ¬k < n + 1 by omega]

/-- The lanes of a register made of lanes are those lanes. -/
theorem hasLanes_ofLanes (size : Nat) (f : Nat → BitVec size) : HasLanes size (ofLanes size f) f := by
  intro k hk
  have hfits : (k + 1) * size ≤ 128 := (Nat.mul_le_mul_right size hk).trans (Nat.div_mul_le_self 128 size)
  rw [ofLanes, extractLsb'_packLanes hfits, if_pos hk]

/-! ### The write of 128 bits -/

/-- An instruction that is a 128-bit write of the group family. -/
theorem writes128_of_exec {i : Instr} {s : State} {rd : Reg} {v : Hexlet} (h : exec i s = groupWrite rd v s) :
    Writes128 i s rd v := h

/-- An instruction that writes a register made of lanes. -/
theorem writesLanes_of_exec {i : Instr} {s : State} {rd : Reg} {size : Nat} {f : Nat → BitVec size}
    (h : exec i s = groupWrite rd (ofLanes size f) s) : WritesLanes i s rd size f :=
  ⟨ofLanes size f, hasLanes_ofLanes size f, writes128_of_exec h⟩

/-! ### Add and halve (45_group_arith.md rules R701 and R702) -/

/-- Bits `k` and up of a word are the quotient of its number by `2^k`. -/
theorem extractLsb'_eq_ofInt {m k n : Nat} (h : k + n ≤ m) (x : BitVec m) :
    x.extractLsb' k n = BitVec.ofInt n (x.toInt / 2 ^ k) := by
  have hshift : x.extractLsb' k n = (x.sshiftRight k).setWidth n := by
    apply BitVec.eq_of_getLsbD_eq
    intro i hi
    rw [BitVec.getLsbD_extractLsb', BitVec.getLsbD_setWidth, BitVec.getLsbD_sshiftRight]
    simp [hi, show i < m by omega, show k + i < m by omega]
  rw [hshift, sshiftRight_eq_ofInt, setWidth_ofInt (by omega)]

/-- The half toward zero is that of a negative number with 1 added. -/
theorem tdiv_two_eq_ediv (t : Int) : Int.tdiv t 2 = (t + if t < 0 then 1 else 0) / 2 := by
  have hsign : Int.sign 2 = 1 := rfl
  rw [Int.tdiv_eq_ediv, hsign]
  split <;> split <;> omega

/-- Half of a number lies between the halves of its bounds, whatever the rounding. -/
theorem halved_bounds (r : Rounding) {t lo hi : Int} (hlo : 2 * lo ≤ t) (hhi : t ≤ 2 * hi) :
    lo ≤ halved r t ∧ halved r t ≤ hi := by
  cases r with
  | ceiling | floor | nearest =>
    simp only [halved]
    omega
  | zero =>
    rw [halved, tdiv_two_eq_ediv]
    split <;> omega

/-- The increment of each rounding makes the shift the rounded half; Z reads the sign in the top bit, so its sum must
have `n + 1` bits with the sign. -/
theorem half_of_add_increment {n : Nat} (hn : 0 < n) (r : Rounding) {t : Int} (hlo : -2 ^ n ≤ t)
    (hz : r = .zero → t < 2 ^ n) :
    (t + ((r.increment (BitVec.ofInt (n + 1) t)).toNat : Int)) / 2 = halved r t := by
  cases r with
  | ceiling =>
    simp only [Rounding.increment, halved, Bool.toNat_true]
    omega
  | floor => simp [Rounding.increment, halved]
  | nearest =>
    have hbit : (BitVec.ofInt (n + 1) t).getLsbD 1 = decide (2 ≤ t % 4) := by
      have htop := getLsbD_top_ofInt (n := 1) t
      rwa [← setWidth_ofInt (show 2 ≤ n + 1 by omega), BitVec.getLsbD_setWidth, decide_eq_true (by decide),
        Bool.true_and] at htop
    simp only [Rounding.increment, halved, hbit]
    by_cases h : 2 ≤ t % 4 <;> simp [h] <;> omega
  | zero =>
    have hpow : (2 : Int) ^ (n + 1) = 2 * 2 ^ n := pow_succ' 2 n
    have hpos : (0 : Int) < 2 ^ n := by positivity
    have hhi := hz rfl
    have hsign : (BitVec.ofInt (n + 1) t).getLsbD n = decide (t < 0) := by
      rw [getLsbD_top_ofInt, emod_by_sign (by omega) (by omega), decide_eq_decide]
      split <;> omega
    rw [Rounding.increment, halved, hsign, tdiv_two_eq_ediv]
    by_cases h : t < 0 <;> simp [h]

/-- The shift of the sum and its increment, in `n + 2` bits, is the rounded half of the exact sum. -/
theorem shifted_sum_eq_ofInt {n : Nat} (hn : 0 < n) (r : Rounding) {t : Int} (hlo : -2 ^ n ≤ t)
    (hhi : t + 1 < 2 ^ (n + 1)) (hz : r = .zero → t < 2 ^ n) :
    (BitVec.ofInt (n + 2) t + (BitVec.ofBool (r.increment (BitVec.ofInt (n + 1) t))).setWidth (n + 2)).extractLsb' 1 n =
      BitVec.ofInt n (halved r t) := by
  have hpow : (2 : Int) ^ (n + 1) = 2 * 2 ^ n := pow_succ' 2 n
  have hpos : (0 : Int) < 2 ^ n := by positivity
  rw [← half_of_add_increment hn r hlo hz, setWidth_eq_ofInt, ← BitVec.ofInt_add, BitVec.toNat_ofBool,
    extractLsb'_eq_ofInt (by omega), pow_one]
  generalize r.increment (BitVec.ofInt (n + 1) t) = b
  have hb : (b.toNat : Int) ≤ 1 := by exact_mod_cast b.toNat_le
  have hpred : n + 2 - 1 = n + 1 := rfl
  rw [BitVec.toInt_ofInt_eq_self (by omega) (by rw [hpred]; omega) (by rw [hpred]; omega)]

/-- A lane of the signed G.ADD.H is the rounded half of the signed sum. -/
theorem toInt_addHalve_signed {n : Nat} (hn : 0 < n) (r : Rounding) (c b : BitVec n) :
    (addHalve .signed r c b).toInt = halved r (c.toInt + b.toInt) := by
  have hpow : (2 : Int) ^ n = 2 * 2 ^ (n - 1) := by rw [← pow_succ', Nat.sub_add_cancel hn]
  have hpos : (0 : Int) < 2 ^ (n - 1) := by positivity
  have hsucc : (2 : Int) ^ (n + 1) = 2 * 2 ^ n := pow_succ' 2 n
  have hc : -2 ^ n ≤ 2 * c.toInt ∧ 2 * c.toInt < 2 ^ n := ⟨BitVec.le_two_mul_toInt, BitVec.two_mul_toInt_lt⟩
  have hb : -2 ^ n ≤ 2 * b.toInt ∧ 2 * b.toInt < 2 ^ n := ⟨BitVec.le_two_mul_toInt, BitVec.two_mul_toInt_lt⟩
  have hsum : c.signExtend (n + 1) + b.signExtend (n + 1) = BitVec.ofInt (n + 1) (c.toInt + b.toInt) := by
    rw [signExtend_eq_ofInt, signExtend_eq_ofInt, BitVec.ofInt_add]
  have hexact : (BitVec.ofInt (n + 1) (c.toInt + b.toInt)).toInt = c.toInt + b.toInt :=
    BitVec.toInt_ofInt_eq_self (by omega) (by rw [Nat.add_sub_cancel]; omega) (by rw [Nat.add_sub_cancel]; omega)
  obtain ⟨hlo, hhi⟩ := halved_bounds r (t := c.toInt + b.toInt) (lo := -2 ^ (n - 1)) (hi := 2 ^ (n - 1) - 1)
    (by omega) (by omega)
  simp only [addHalve]
  rw [hsum, signExtend_eq_ofInt, hexact, shifted_sum_eq_ofInt hn r (by omega) (by omega) (by omega),
    BitVec.toInt_ofInt_eq_self hn hlo (by omega)]

/-- A lane of G.ADD.H.U is the rounded half of the unsigned sum; there is no form that rounds toward zero. -/
theorem toNat_addHalve_unsigned {n : Nat} (hn : 0 < n) {r : Rounding} (hr : r ≠ .zero) (c b : BitVec n) :
    ((addHalve .unsigned r c b).toNat : Int) = halved r (c.toNat + b.toNat) := by
  have hpos : (0 : Int) < 2 ^ n := by positivity
  have hsucc : (2 : Int) ^ (n + 1) = 2 * 2 ^ n := pow_succ' 2 n
  have hc := toNat_cast_lt c
  have hb := toNat_cast_lt b
  have hsum : c.setWidth (n + 1) + b.setWidth (n + 1) = BitVec.ofInt (n + 1) (c.toNat + b.toNat) := by
    rw [setWidth_eq_ofInt, setWidth_eq_ofInt, BitVec.ofInt_add]
  have hexact : ((BitVec.ofInt (n + 1) (c.toNat + b.toNat)).toNat : Int) = c.toNat + b.toNat := by
    rw [toNat_ofInt_cast, Int.emod_eq_of_lt (by omega) (by omega)]
  obtain ⟨hlo, hhi⟩ := halved_bounds r (t := c.toNat + b.toNat) (lo := 0) (hi := 2 ^ n - 1) (by omega) (by omega)
  simp only [addHalve]
  rw [hsum, setWidth_eq_ofInt (n + 2) (BitVec.ofInt _ _), hexact,
    shifted_sum_eq_ofInt hn r (by omega) (by omega) (absurd · hr), toNat_ofInt_cast,
    Int.emod_eq_of_lt hlo (by omega)]

/-- Every signed G.ADD.H has lanes of some bits and halves the lanes of its registers as signed numbers. -/
theorem exec_addHalveForm {f : Nat × Rounding × (Reg → Reg → Reg → Instr)} (hf : f ∈ addHalveForms) (rd rc rb : Reg)
    (s : State) :
    0 < f.1 ∧ exec (f.2.2 rd rc rb) s =
      groupWrite rd (ofLanes f.1 fun k => addHalve .signed f.2.1 (lane f.1 (s.reg rc) k) (lane f.1 (s.reg rb) k)) s := by
  unfold addHalveForms at hf
  fin_cases hf <;> exact ⟨by decide, rfl⟩

/-- Every G.ADD.H.U has lanes of some bits, does not round toward zero, and halves the lanes of its registers as
unsigned numbers. -/
theorem exec_addHalveUnsignedForm {f : Nat × Rounding × (Reg → Reg → Reg → Instr)} (hf : f ∈ addHalveUnsignedForms)
    (rd rc rb : Reg) (s : State) :
    0 < f.1 ∧ f.2.1 ≠ .zero ∧ exec (f.2.2 rd rc rb) s =
      groupWrite rd (ofLanes f.1 fun k => addHalve .unsigned f.2.1 (lane f.1 (s.reg rc) k) (lane f.1 (s.reg rb) k)) s := by
  unfold addHalveUnsignedForms at hf
  fin_cases hf <;> exact ⟨by decide, by decide, rfl⟩

/-- Settles O41: the increment of each rounding, added before the shift, makes it the rounded half. -/
theorem groupAddHalve : Obligations.GroupAddHalve := by
  refine ⟨fun f hf rd rc rb s => ?_, fun f hf rd rc rb s => ?_⟩
  · obtain ⟨hsize, hexec⟩ := exec_addHalveForm hf rd rc rb s
    refine ⟨_, fun k hk => ?_, writes128_of_exec hexec⟩
    rw [hasLanes_ofLanes _ _ k hk, toInt_addHalve_signed hsize, lane_eq_laneOf, lane_eq_laneOf]
  · obtain ⟨hsize, hround, hexec⟩ := exec_addHalveUnsignedForm hf rd rc rb s
    refine ⟨_, fun k hk => ?_, writes128_of_exec hexec⟩
    rw [hasLanes_ofLanes _ _ k hk, toNat_addHalve_unsigned hsize hround, lane_eq_laneOf, lane_eq_laneOf]

/-! ### Copy immediate (45_group_arith.md rule R704) -/

/-- The lane of G.COPY.I is the number of `s || imm`, whose top bit weighs `-2^16`. -/
theorem copyLane_eq_ofInt (size : Nat) (sign : BitVec 1) (imm : BitVec 16) :
    copyLane size sign imm = BitVec.ofInt size ((imm.toNat : Int) - sign.toNat * 2 ^ 16) := by
  have hsign : sign.toInt = -(sign.toNat : Int) := by
    obtain rfl | rfl := sign.eq_zero_or_eq_one <;> rfl
  have hnumber : (sign ++ imm).toInt = imm.toNat - sign.toNat * 2 ^ 16 := by
    rw [BitVec.toInt_append, if_neg (by decide), hsign]
    ring
  rw [copyLane, signExtend_eq_ofInt, hnumber]

/-- Every G.COPY.I fills the lanes; only that of 16-bit lanes tests `s`. -/
theorem exec_copyForm {f : Nat × (BitVec 1 → Reg → BitVec 16 → Instr)} (hf : f ∈ copyForms) (sign : BitVec 1) (rd : Reg)
    (imm : BitVec 16) (s : State) :
    exec (f.2 sign rd imm) s =
      if f.1 = 16 ∧ sign = 1 then s.raiseExn .reservedInstruction
      else groupWrite rd (ofLanes f.1 fun _ => copyLane f.1 sign imm) s := by
  unfold copyForms at hf
  fin_cases hf
  · simp only [true_and]
    rfl
  all_goals exact (if_neg fun h => absurd h.1 (by decide)).symm

/-- Settles O42: the model tests `s` in the 16-bit form only, and its lane is the 17-bit number extended. -/
theorem groupCopyImmediate : Obligations.GroupCopyImmediate := by
  intro f hf sign rd imm s
  have hexec := exec_copyForm hf sign rd imm s
  refine ⟨fun hreserved => raises_of_exec (hexec.trans (if_pos hreserved)), fun hfills => ?_⟩
  rw [if_neg hfills] at hexec
  simp only [copyLane_eq_ofInt] at hexec
  exact writesLanes_of_exec hexec

/-! ### Add and subtract in place (45_group_arith.md rule R705) -/

theorem add_add_eq_ofInt {n : Nat} (d c b : BitVec n) :
    d + c + b = BitVec.ofInt n (d.toInt + c.toInt + b.toInt) := by
  rw [BitVec.ofInt_add, ← add_eq_ofInt, BitVec.ofInt_toInt]

theorem sub_add_eq_ofInt {n : Nat} (d c b : BitVec n) :
    d - c + b = BitVec.ofInt n (d.toInt - c.toInt + b.toInt) := by
  rw [BitVec.ofInt_add, ← sub_eq_ofInt, BitVec.ofInt_toInt]

/-- Every G.AAA and G.ASA writes the exact results of its lanes, wrapped. -/
theorem exec_inPlaceForm {f : Nat × (Int → Int → Int → Int) × (Reg → Reg → Reg → Instr)} (hf : f ∈ inPlaceForms)
    (rd rc rb : Reg) (s : State) :
    exec (f.2.2 rd rc rb) s = groupWrite rd (ofLanes f.1 fun k => BitVec.ofInt f.1
      (f.2.1 (laneOf s rd f.1 k).toInt (laneOf s rc f.1 k).toInt (laneOf s rb f.1 k).toInt)) s := by
  unfold inPlaceForms at hf
  fin_cases hf <;> simp only [← add_add_eq_ofInt, ← sub_add_eq_ofInt, ← lane_eq_laneOf] <;> rfl

/-- Settles O43: sums and differences of lanes are those of their numbers, wrapped. -/
theorem groupInPlace : Obligations.GroupInPlace := fun _ hf rd rc rb s =>
  writesLanes_of_exec (exec_inPlaceForm hf rd rc rb s)

/-! ### Shift and add (45_group_arith.md rule R706) -/

theorem add_shiftLeft_eq_ofInt {n : Nat} (c b : BitVec n) (i : Nat) :
    c + b <<< i = BitVec.ofInt n (c.toInt + b.toInt * 2 ^ i) := by
  rw [BitVec.ofInt_add, ← shiftLeft_eq_ofInt, BitVec.ofInt_toInt]

theorem shiftLeft_sub_eq_ofInt {n : Nat} (c b : BitVec n) (i : Nat) :
    b <<< i - c = BitVec.ofInt n (b.toInt * 2 ^ i - c.toInt) := by
  rw [ofInt_sub, ← shiftLeft_eq_ofInt, BitVec.ofInt_toInt]

/-- Every G.SHL.I.ADD and G.SHL.I.SUB writes the exact results of its lanes, wrapped. -/
theorem exec_shiftAddForm {f : Nat × (Int → Int → Int) × (Reg → Reg → Reg → Nat → Instr)} (hf : f ∈ shiftAddForms)
    (rd rc rb : Reg) (amount : Nat) (s : State) :
    exec (f.2.2 rd rc rb amount) s = groupWrite rd (ofLanes f.1 fun k => BitVec.ofInt f.1
      (f.2.1 (laneOf s rc f.1 k).toInt ((laneOf s rb f.1 k).toInt * 2 ^ amount))) s := by
  unfold shiftAddForms at hf
  fin_cases hf <;> simp only [← add_shiftLeft_eq_ofInt, ← shiftLeft_sub_eq_ofInt, ← lane_eq_laneOf] <;> rfl

/-- Settles O44: a shift within the lane is the product by `2^i`, wrapped, and so is the sum or difference. -/
theorem groupShiftAdd : Obligations.GroupShiftAdd := fun _ hf rd rc rb amount s _ _ =>
  writesLanes_of_exec (exec_shiftAddForm hf rd rc rb amount s)

end Sys2Proof.Machine
end

section
/-! The family 46_group_immediate: the immediate of a lane, as a number and bit by bit; registers read by their lanes;
the masks of G.SET; and the registers made of checked lanes. -/

namespace Sys2Proof.Machine

open Sys2Proof Sys2Proof.Claims

/-! ### Add and subtract (46_group_immediate.md rules R801, R802 and R804) -/

theorem add_laneImmediate_eq_ofInt {n : Nat} (c : BitVec n) (imm : BitVec 10) :
    c + laneImmediate n imm = BitVec.ofInt n (c.toInt + imm.toInt) := by
  rw [BitVec.ofInt_add, BitVec.ofInt_toInt, laneImmediate, signExtend_eq_ofInt]

theorem laneImmediate_sub_eq_ofInt {n : Nat} (c : BitVec n) (imm : BitVec 10) :
    laneImmediate n imm - c = BitVec.ofInt n (imm.toInt - c.toInt) := by
  rw [ofInt_sub, BitVec.ofInt_toInt, laneImmediate, signExtend_eq_ofInt]

/-- Every G.ADD.I and G.SUB.I writes the exact results of its lanes, wrapped. -/
theorem exec_addImmediateForm {f : Nat × (Int → Int → Int) × (Reg → Reg → BitVec 10 → Instr)}
    (hf : f ∈ addImmediateForms) (rd rc : Reg) (imm : BitVec 10) (s : State) :
    exec (f.2.2 rd rc imm) s =
      groupWrite rd (ofLanes f.1 fun k => BitVec.ofInt f.1 (f.2.1 (laneOf s rc f.1 k).toInt imm.toInt)) s := by
  unfold addImmediateForms at hf
  fin_cases hf <;>
    simp only [← add_laneImmediate_eq_ofInt, ← laneImmediate_sub_eq_ofInt, ← lane_eq_laneOf] <;> rfl

/-- Settles O45: sums and differences of a lane and the extended immediate are those of their numbers, wrapped. -/
theorem groupAddImmediate : Obligations.GroupAddImmediate := fun _ hf rd rc imm s =>
  writesLanes_of_exec (exec_addImmediateForm hf rd rc imm s)

/-! ### Logic, bit by bit -/

/-- A bit of the immediate of a lane is that of the field, or its sign. -/
theorem getLsbD_laneImmediate {size : Nat} (imm : BitVec 10) {j : Nat} (hj : j < size) :
    (laneImmediate size imm).getLsbD j = imm.getLsbD (min j 9) := by
  rw [laneImmediate, BitVec.getLsbD_signExtend, BitVec.msb_eq_getLsbD_last]
  split
  · rw [Nat.min_eq_left (by omega)]
    simp [hj]
  · rw [Nat.min_eq_right (by omega)]
    simp [hj]

/-- A bit of a register made of lanes lies in the lane that its position divided by the size names. -/
theorem getLsbD_of_hasLanes {size : Nat} (hsize : size ∣ 128) {v : Hexlet} {f : Nat → BitVec size}
    (h : HasLanes size v f) {k : Nat} (hk : k < 128) : v.getLsbD k = (f (k / size)).getLsbD (k % size) := by
  have hpos : 0 < size := Nat.pos_of_dvd_of_pos hsize (by decide)
  rw [← h (k / size) (Nat.div_lt_div_of_lt_of_dvd hsize hk), BitVec.getLsbD_extractLsb', Nat.div_add_mod,
    decide_eq_true (Nat.mod_lt k hpos), Bool.true_and]

/-- Every logical instruction writes lanes that divide the register and whose bits are the form's function of those of
the lane of `x[rc]` and of the immediate. -/
theorem exec_groupLogicForm {f : Nat × (Bool → Bool → Bool) × (Reg → Reg → BitVec 10 → Instr)}
    (hf : f ∈ groupLogicForms) (rd rc : Reg) (imm : BitVec 10) (s : State) :
    f.1 ∣ 128 ∧ ∃ a : Nat → BitVec f.1, exec (f.2.2 rd rc imm) s = groupWrite rd (ofLanes f.1 a) s ∧
      ∀ k, ∀ j < f.1, (a k).getLsbD j =
        f.2.1 ((lane f.1 (s.reg rc) k).getLsbD j) ((laneImmediate f.1 imm).getLsbD j) := by
  unfold groupLogicForms at hf
  fin_cases hf <;> exact ⟨by decide, _, rfl, fun k j hj => by simp [hj]⟩

/-- Settles O46: bit `k` lies in lane `k / size`, where the logic is the form's function of the bits at `k mod size`. -/
theorem groupLogicImmediate : Obligations.GroupLogicImmediate := by
  intro f hf rd rc imm s
  obtain ⟨hsize, a, hexec, hbits⟩ := exec_groupLogicForm hf rd rc imm s
  refine ⟨ofLanes f.1 a, fun k hk => ?_, writes128_of_exec hexec⟩
  have hbit : k % f.1 < f.1 := Nat.mod_lt k (Nat.pos_of_dvd_of_pos hsize (by decide))
  have hregister : HasLanes f.1 (s.reg rc) (laneOf s rc f.1) := fun _ _ => rfl
  rw [getLsbD_of_hasLanes hsize (hasLanes_ofLanes f.1 a) hk, hbits _ _ hbit, lane_eq_laneOf,
    getLsbD_laneImmediate imm hbit, ← getLsbD_of_hasLanes hsize hregister hk]

/-! ### Comparisons (46_group_immediate.md rule R804) -/

/-- The mask of a truth value that says whether `p` holds is all ones or all zeros accordingly. -/
theorem maskOf_of_iff (n : Nat) {b : Bool} {p : Prop} (hb : b = true ↔ p) :
    (p → maskOf n b = BitVec.ofInt n (-1)) ∧ (¬p → maskOf n b = BitVec.ofInt n 0) := by
  refine ⟨fun hp => ?_, fun hp => ?_⟩
  · rw [hb.2 hp, maskOf_true]
  · rw [Bool.eq_false_of_not_eq_true (mt hb.1 hp), maskOf_false]

/-- Every G.SET writes the masks of the comparison of its form, the immediate on the left. -/
theorem exec_groupSetForm {f : Nat × Relation × (Reg → Reg → BitVec 10 → Instr)} (hf : f ∈ groupSetForms) (rd rc : Reg)
    (imm : BitVec 10) (s : State) :
    exec (f.2.2 rd rc imm) s = groupWrite rd
      (ofLanes f.1 fun k => maskOf f.1 (f.2.1.holds (laneImmediate f.1 imm) (lane f.1 (s.reg rc) k))) s := by
  unfold groupSetForms at hf
  fin_cases hf <;> rfl

/-- Settles O47: the lane written is the mask of the comparison with the immediate on the left. -/
theorem groupSetImmediate : Obligations.GroupSetImmediate := by
  intro f hf rd rc imm s
  refine ⟨_, fun k hk => ?_, writes128_of_exec (exec_groupSetForm hf rd rc imm s)⟩
  rw [hasLanes_ofLanes _ _ k hk, lane_eq_laneOf]
  exact maskOf_of_iff f.1 (f.2.1.holds_iff _ _)

/-! ### Checked lanes (46_group_immediate.md rule R803) -/

/-- Lanes none of which has failed make a register of them. -/
theorem ofCheckedLanes_of_some {size : Nat} {o : Nat → Option (BitVec size)} {f : Nat → BitVec size}
    (h : ∀ k < 128 / size, o k = some (f k)) : ∃ v, ofCheckedLanes size o = some v ∧ HasLanes size v f := by
  have hall : (List.range (128 / size)).all (fun k => (o k).isSome) = true :=
    List.all_eq_true.2 fun k hk => by rw [h k (List.mem_range.1 hk), Option.isSome_some]
  refine ⟨_, if_pos hall, fun k hk => ?_⟩
  rw [hasLanes_ofLanes _ _ k hk, h k hk, Option.getD_some]

/-- One lane that has failed leaves no register. -/
theorem ofCheckedLanes_of_none {size k : Nat} {o : Nat → Option (BitVec size)} (hk : k < 128 / size)
    (h : o k = none) : ofCheckedLanes size o = none := by
  refine if_neg fun hall => ?_
  have hsome := List.all_eq_true.1 hall k (List.mem_range.2 hk)
  rw [h] at hsome
  cases hsome

/-- An instruction that ends in the check that each `t k` lies in a range. -/
theorem writesLanes_or_raises_of_exec {i : Instr} {s : State} {rd : Reg} {size : Nat} {o : Nat → Option (BitVec size)}
    {lo hi : Int} {t : Nat → Int} (ho : ∀ k, o k = fitIn size lo hi (t k))
    (h : exec i s = groupChecked rd (ofCheckedLanes size o) s) :
    ((∀ k < 128 / size, lo ≤ t k ∧ t k < hi) → WritesLanes i s rd size fun k => BitVec.ofInt size (t k)) ∧
      ((∃ k < 128 / size, ¬(lo ≤ t k ∧ t k < hi)) → Raises i s .fixedPointArithmetic) := by
  refine ⟨fun hfit => ?_, fun ⟨k, hk, hover⟩ => raises_of_exec ?_⟩
  · obtain ⟨v, hv, hlanes⟩ := ofCheckedLanes_of_some fun k hk => (ho k).trans (if_pos (hfit k hk))
    rw [hv, groupChecked] at h
    exact ⟨v, hlanes, writes128_of_exec h⟩
  · rw [h, ofCheckedLanes_of_none hk ((ho k).trans (if_neg hover)), groupChecked]

/-- The least number that a checked lane holds. -/
def checkedLow (signed : Bool) (n : Nat) : Int := if signed then -2 ^ (n - 1) else 0

/-- The number above the greatest that a checked lane holds. -/
def checkedHigh (signed : Bool) (n : Nat) : Int := if signed then 2 ^ (n - 1) else 2 ^ n

/-- The exact result `op` of a lane and the immediate, read as signed or as unsigned numbers. -/
def exactLane {n : Nat} (signed : Bool) (op : Int → Int → Int) (c : BitVec n) (imm : BitVec 10) : Int :=
  if signed then op c.toInt imm.toInt else op c.toNat (imm.signExtend n).toNat

/-- The immediate of a lane wide enough for it keeps its value. -/
theorem toInt_laneImmediate {n : Nat} (hn : 10 ≤ n) (imm : BitVec 10) : (laneImmediate n imm).toInt = imm.toInt :=
  BitVec.toInt_signExtend_of_le hn

theorem addSigned_laneImmediate {n : Nat} (hn : 10 ≤ n) (c : BitVec n) (imm : BitVec 10) :
    addSigned c (laneImmediate n imm) =
      fitIn n (checkedLow true n) (checkedHigh true n) (exactLane true (fun c i => c + i) c imm) := by
  rw [addSigned_eq_fitIn (by omega), toInt_laneImmediate hn]
  rfl

theorem subSigned_laneImmediate {n : Nat} (hn : 10 ≤ n) (c : BitVec n) (imm : BitVec 10) :
    subSigned (laneImmediate n imm) c =
      fitIn n (checkedLow true n) (checkedHigh true n) (exactLane true (fun c i => i - c) c imm) := by
  rw [subSigned_eq_fitIn (by omega), toInt_laneImmediate hn]
  rfl

theorem addUnsigned_laneImmediate {n : Nat} (c : BitVec n) (imm : BitVec 10) :
    addUnsigned c (laneImmediate n imm) =
      fitIn n (checkedLow false n) (checkedHigh false n) (exactLane false (fun c i => c + i) c imm) :=
  addUnsigned_eq_fitIn c (laneImmediate n imm)

theorem subUnsigned_laneImmediate {n : Nat} (c : BitVec n) (imm : BitVec 10) :
    subUnsigned (laneImmediate n imm) c =
      fitIn n (checkedLow false n) (checkedHigh false n) (exactLane false (fun c i => i - c) c imm) :=
  subUnsigned_eq_fitIn (laneImmediate n imm) c

/-- Every checked form ends in the check that the exact results of its lanes lie in its range. -/
theorem exec_groupCheckedForm {f : Nat × Bool × (Int → Int → Int) × (Reg → Reg → BitVec 10 → Instr)}
    (hf : f ∈ groupCheckedForms) (rd rc : Reg) (imm : BitVec 10) (s : State) :
    ∃ o : Nat → Option (BitVec f.1), exec (f.2.2.2 rd rc imm) s = groupChecked rd (ofCheckedLanes f.1 o) s ∧
      ∀ k, o k = fitIn f.1 (checkedLow f.2.1 f.1) (checkedHigh f.2.1 f.1)
        (exactLane f.2.1 f.2.2.1 (lane f.1 (s.reg rc) k) imm) := by
  unfold groupCheckedForms at hf
  fin_cases hf
  iterate 4 exact ⟨_, rfl, fun k => addSigned_laneImmediate (by decide) _ imm⟩
  iterate 4 exact ⟨_, rfl, fun k => addUnsigned_laneImmediate _ imm⟩
  iterate 4 exact ⟨_, rfl, fun k => subSigned_laneImmediate (by decide) _ imm⟩
  iterate 4 exact ⟨_, rfl, fun k => subUnsigned_laneImmediate _ imm⟩

/-- Settles O48: the model makes a register of the lanes if all fit, and none if one does not. -/
theorem groupChecks : Obligations.GroupChecked := by
  intro f hf rd rc imm s t ht
  obtain ⟨o, hexec, ho⟩ := exec_groupCheckedForm hf rd rc imm s
  refine writesLanes_or_raises_of_exec (fun k => ?_) hexec
  rw [ho k, lane_eq_laneOf, ht k]
  rfl

end Sys2Proof.Machine
end

section
/-! The family 60_exceptions: what every instruction answers under either value of the parameter `TrapEntry`, said once
for all 345 instructions (`Answers`, `exec_answers`), with the exceptions it may raise and the refusals it may meet;
and, from it, how a run can stop and how it goes on after an exception. -/

namespace Sys2Proof.Machine

open Sys2Proof Sys2Proof.Claims

/-! ### The privilege level (60_exceptions.md rule R921) -/

/-- B.GATE alone raises the level, B.DOWN and B.BACK alone lower it, and every other instruction keeps it. -/
theorem Effect.privilegeLevel {i : Instr} {s t : State} (h : Effect s i t) :
    t.privilegeLevel = s.privilegeLevel ∨
      ((∃ rd rc rb, i = .bGate rd rc rb) ∧ s.privilegeLevel ≤ t.privilegeLevel) ∨
      ((∃ rd rc rb, i = .bDown rd rc rb ∨ i = .bBack rd rc rb) ∧ t.privilegeLevel ≤ s.privilegeLevel) := by
  have hlower : ∀ p : Level, (s.lowerPrivilege p).privilegeLevel ≤ s.privilegeLevel := by
    intro p
    rw [State.lowerPrivilege_privilegeLevel]
    split
    · exact BitVec.le_of_lt ‹_›
    · exact BitVec.le_refl _
  cases h with
  | computes _ h | stores _ h | branches _ h =>
    rw [h.rest]
    exact .inl rfl
  | barrier | halt => exact .inl rfl
  | gate rd rc rb hp => exact .inr (.inl ⟨⟨rd, rc, rb, rfl⟩, hp⟩)
  | down rd rc rb => exact .inr (.inr ⟨⟨rd, rc, rb, .inl rfl⟩, hlower _⟩)
  | back rd rc rb => exact .inr (.inr ⟨⟨rd, rc, rb, .inr rfl⟩, hlower _⟩)

/-- Settles O55, by the effect of the instruction. -/
theorem privilegeTransitions : Obligations.PrivilegeTransitions := by
  intro i s t hi
  obtain h | ⟨hgate, hle⟩ | ⟨hback, hle⟩ := (effect_of_completes hi).privilegeLevel
  · rw [h]
    exact ⟨fun hlt => absurd hlt (BitVec.lt_irrefl _), fun hlt => absurd hlt (BitVec.lt_irrefl _)⟩
  · exact ⟨fun _ => hgate, fun hlt => absurd hle (BitVec.not_le.2 hlt)⟩
  · exact ⟨fun hlt => absurd hle (BitVec.not_le.2 hlt), fun _ => hback⟩

/-! ### Exceptions of the fetch (60_exceptions.md rules R903 and R906) -/

theorem State.fetch_of_span_raised {s : State} {e : AccessFault} (h : s.span .execute s.pc s.pc 4 = .raised e) :
    s.fetch = .raised e := by
  rw [State.fetch, h]

theorem State.fetch_of_span_refused {s : State} {r : Refusal} (h : s.span .execute s.pc s.pc 4 = .refused r) :
    s.fetch = .refused r := by
  rw [State.fetch, h]

/-- Settles O6: a step begins with its fetch, and nothing follows a fetch that raises. -/
theorem fetchExceptionFirst : Obligations.FetchExceptionFirst := by
  intro s e hrun he
  rw [step, if_neg (by simp [hrun]), State.fetch_of_span_raised (State.span_of_translationRaises he),
    Access.andThen_raised]
  exact isRaised_raiseExn s (.access e)

/-! ### What an access refuses -/

/-- Bytes translate to addresses or to an exception. -/
theorem State.translateBytes_ne_refused (s : State) (kind : AccessKind) (ba va : Octlet) (n : Nat) (r : Refusal) :
    s.translateBytes kind ba va n ≠ .refused r := by
  induction n generalizing va r with
  | zero => exact nofun
  | succ n ih =>
    rw [State.translateBytes]
    split
    · split
      · exact nofun
      · exact nofun
      · rename_i hrest
        exact absurd hrest (ih _ _)
    · exact nofun
    · rename_i hfirst
      exact absurd hfirst (s.translate_ne_refused kind ba va _)

/-- An access is refused past the last address or at an I/O address, and for no other reason. -/
theorem State.span_eq_refused {s : State} {kind : AccessKind} {ba va : Octlet} {n : Nat} {r : Refusal}
    (h : s.span kind ba va n = .refused r) :
    r = .accessPastEnd ∧ 2 ^ 64 < va.toNat + n ∨ r = .ioTransaction := by
  unfold State.span at h
  split at h
  · split at h
    · unfold inMemory at h
      split at h
      · cases h
      · cases h
        exact .inr rfl
    · cases h
    · rename_i hbytes
      exact absurd hbytes (s.translateBytes_ne_refused kind ba va n _)
  · rename_i hend
    cases h
    exact .inl ⟨rfl, not_le.1 hend⟩

/-- A load is refused for the reasons of its access. -/
theorem State.loadMemory_eq_refused {s : State} {kind : AccessKind} {ba va : Octlet} {size : Nat} {ord : ByteOrder}
    {r : Refusal} (h : s.loadMemory kind ba va size ord = .refused r) :
    r = .accessPastEnd ∧ 2 ^ 64 < va.toNat + size / 8 ∨ r = .ioTransaction := by
  unfold State.loadMemory at h
  split at h
  · cases h
  · cases h
  · rename_i hspan
    cases h
    exact State.span_eq_refused hspan

/-- An access all of whose bytes translate, one of them to an I/O address, is refused. -/
theorem State.span_of_reachesIO {s : State} {kind : AccessKind} {ba va : Octlet} {n : Nat}
    (h : ReachesIO s kind ba va n) : s.span kind ba va n = .refused .ioTransaction := by
  obtain ⟨hle, hall, k, hk, p, hp, hio⟩ := h
  have : Nonempty PhysicalAddress := ⟨p⟩
  choose! pa hpa using hall
  refine State.span_io hle hpa hk ?_
  rw [hpa k hk] at hp
  rwa [Access.ok.inj hp]

/-! ### The value of `TrapEntry`

Accesses, and all that an instruction reads, do not depend on it: what can be read off the state is the same by
definition, and what is defined by recursion has its lemma here. -/

theorem withTrapEntry_self (s : State) : withTrapEntry s s.params.trapEntry = s := rfl

theorem translateBytes_withTrapEntry (s : State) (x : TrapEntry) (kind : AccessKind) (ba va : Octlet) (n : Nat) :
    (withTrapEntry s x).translateBytes kind ba va n = s.translateBytes kind ba va n := by
  induction n generalizing va with
  | zero => rfl
  | succ n ih =>
    have hfirst : (withTrapEntry s x).translate kind ba va = s.translate kind ba va := rfl
    rw [State.translateBytes, State.translateBytes, hfirst, ih]

theorem span_withTrapEntry (s : State) (x : TrapEntry) (kind : AccessKind) (ba va : Octlet) (n : Nat) :
    (withTrapEntry s x).span kind ba va n = s.span kind ba va n := by
  rw [State.span, State.span, translateBytes_withTrapEntry]

theorem loadMemory_withTrapEntry (s : State) (x : TrapEntry) (kind : AccessKind) (ba va : Octlet) (size : Nat)
    (ord : ByteOrder) : (withTrapEntry s x).loadMemory kind ba va size ord = s.loadMemory kind ba va size ord := by
  rw [State.loadMemory, State.loadMemory, span_withTrapEntry]
  rfl

theorem storeBytes_withTrapEntry (s : State) (x : TrapEntry) (pas : List Nat) (vs : List Byte) :
    (withTrapEntry s x).storeBytes pas vs = withTrapEntry (s.storeBytes pas vs) x := by
  induction pas generalizing s vs with
  | nil => cases vs <;> rfl
  | cons pa pas ih =>
    cases vs with
    | nil => rfl
    | cons v vs => exact ih (s.storeByte pa v) vs

/-! ### What an instruction answers under either value of `TrapEntry` -/

/-- The exceptions an instruction may raise (60_exceptions.md rule R901). -/
def MayRaise (i : Instr) : Exn → Prop
  | .gatewayDisallowed => ∃ rd rc rb, i = .bGate rd rc rb
  | .fixedPointArithmetic => mayOverflow i = true
  | .reservedInstruction => mayBeReserved i = true
  | .access _ => isLoad i = true ∨ isStore i = true ∨ testsTarget i = true ∨
      ∃ rd rc rb, i = .bBack rd rc rb ∨ i = .bGate rd rc rb

/-- The refusals an instruction may meet (notes/assumptions/19.md and 24.md). -/
def MayRefuse (i : Instr) : Refusal → Prop
  | .accessPastEnd => isLoad i = true ∨ isStore i = true ∨ ∃ rd rc rb, i = .bBack rd rc rb
  | .ioTransaction =>
    isLoad i = true ∨ isStore i = true ∨ ∃ rd rc rb, i = .bBack rd rc rb ∨ i = .bGate rd rc rb
  | .notModelled _ | .unassignedWord _ | .missingRegister _ => False

/-- `final` and `continues` are what one instruction answers in `s` under the two values of `TrapEntry`: the same
completion, the same exception, one of those that `raises` allows, or the same refusal, one of those that `refuses`
allows. -/
inductive Answers (raises : Exn → Prop) (refuses : Refusal → Prop) (s : State) (final continues : Result) : Prop where
  | completes (t : State) (hfinal : final = .next (withTrapEntry t .final))
      (hcontinues : continues = .next (withTrapEntry t .continues))
  | raised (e : Exn) (he : raises e) (hfinal : final = (withTrapEntry s .final).raiseExn e)
      (hcontinues : continues = (withTrapEntry s .continues).raiseExn e)
  | refused (r : Refusal) (hr : refuses r) (hfinal : final = .refused r) (hcontinues : continues = .refused r)

/-- What is allowed to an instruction that makes an access: each access exception and both refusals. -/
structure AllowsAccess (raises : Exn → Prop) (refuses : Refusal → Prop) : Prop where
  access : ∀ e, raises (.access e)
  pastEnd : refuses .accessPastEnd
  io : refuses .ioTransaction

theorem allowsAccess_of_isLoad {i : Instr} (h : isLoad i = true) : AllowsAccess (MayRaise i) (MayRefuse i) :=
  ⟨fun _ => .inl h, .inl h, .inl h⟩

theorem allowsAccess_of_isStore {i : Instr} (h : isStore i = true) : AllowsAccess (MayRaise i) (MayRefuse i) :=
  ⟨fun _ => .inr (.inl h), .inr (.inl h), .inr (.inl h)⟩

theorem allowsAccess_bBack (rd rc rb : Reg) : AllowsAccess (MayRaise (.bBack rd rc rb)) (MayRefuse (.bBack rd rc rb)) :=
  ⟨fun _ => .inr (.inr (.inr ⟨rd, rc, rb, .inl rfl⟩)), .inr (.inr ⟨rd, rc, rb, rfl⟩),
    .inr (.inr ⟨rd, rc, rb, .inl rfl⟩)⟩

section
variable {raises : Exn → Prop} {refuses : Refusal → Prop} {s : State}

theorem AllowsAccess.refuses_of_span (h : AllowsAccess raises refuses) {kind : AccessKind} {ba va : Octlet} {n : Nat}
    {r : Refusal} (hr : s.span kind ba va n = .refused r) : refuses r := by
  obtain ⟨rfl, -⟩ | rfl := State.span_eq_refused hr
  · exact h.pastEnd
  · exact h.io

theorem AllowsAccess.refuses_of_loadMemory (h : AllowsAccess raises refuses) {kind : AccessKind} {ba va : Octlet}
    {size : Nat} {ord : ByteOrder} {r : Refusal} (hr : s.loadMemory kind ba va size ord = .refused r) : refuses r := by
  obtain ⟨rfl, -⟩ | rfl := State.loadMemory_eq_refused hr
  · exact h.pastEnd
  · exact h.io

/-! ### The parts of a meaning: exceptions, tests and accesses -/

theorem answers_raiseExn {e : Exn} (he : raises e) :
    Answers raises refuses s ((withTrapEntry s .final).raiseExn e) ((withTrapEntry s .continues).raiseExn e) :=
  .raised e he rfl rfl

/-- A test that comes out alike under both values. -/
theorem answers_ite {c : Prop} [Decidable c] {x x' y y' : Result} (hpos : c → Answers raises refuses s x x')
    (hneg : ¬c → Answers raises refuses s y y') :
    Answers raises refuses s (if c then x else y) (if c then x' else y') := by
  by_cases h : c
  · rw [if_pos h, if_pos h]
    exact hpos h
  · rw [if_neg h, if_neg h]
    exact hneg h

/-- An access, and what follows it. -/
theorem answers_loadMemory {kind : AccessKind} {ba va : Octlet} {size : Nat} {ord : ByteOrder}
    {k k' : BitVec size → Result} (haccess : ∀ e, raises (.access e))
    (hrefused : ∀ r, s.loadMemory kind ba va size ord = .refused r → refuses r)
    (hk : ∀ a, Answers raises refuses s (k a) (k' a)) :
    Answers raises refuses s
      (((withTrapEntry s .final).loadMemory kind ba va size ord).andThen (withTrapEntry s .final) k)
      (((withTrapEntry s .continues).loadMemory kind ba va size ord).andThen (withTrapEntry s .continues) k') := by
  rw [loadMemory_withTrapEntry, loadMemory_withTrapEntry]
  cases hload : s.loadMemory kind ba va size ord with
  | ok a => exact hk a
  | raised e => exact answers_raiseExn (haccess e)
  | refused r => exact .refused r (hrefused r hload) rfl rfl

/-- A store in a state `t` that the instruction has reached, and what follows it. -/
theorem answers_storeMemory {t : State} {ba va : Octlet} {size : Nat} {ord : ByteOrder} {data : BitVec size}
    {k k' : State → Result} (h : AllowsAccess raises refuses)
    (hk : ∀ u, Answers raises refuses s (k (withTrapEntry u .final)) (k' (withTrapEntry u .continues))) :
    Answers raises refuses s
      (((withTrapEntry t .final).storeMemory ba va size ord data).andThen (withTrapEntry s .final) k)
      (((withTrapEntry t .continues).storeMemory ba va size ord data).andThen (withTrapEntry s .continues) k') := by
  simp only [State.storeMemory, span_withTrapEntry, storeBytes_withTrapEntry]
  cases hspan : t.span .write ba va (size / 8) with
  | ok pas => exact hk _
  | raised e => exact answers_raiseExn (h.access e)
  | refused r => exact .refused r (h.refuses_of_span hspan) rfl rfl

/-! ### The shared bodies of the meanings -/

variable {rd rc rb : Reg}

theorem answers_groupWrite {a : Hexlet} :
    Answers raises refuses s (groupWrite rd a (withTrapEntry s .final))
      (groupWrite rd a (withTrapEntry s .continues)) :=
  .completes (s.setReg rd a).advance rfl rfl

theorem answers_addressWrite {a : Octlet} :
    Answers raises refuses s (addressWrite rd a (withTrapEntry s .final))
      (addressWrite rd a (withTrapEntry s .continues)) :=
  .completes (s.setReg64 rd a).advance rfl rfl

theorem answers_groupChecked {a : Option Hexlet} (h : raises .fixedPointArithmetic) :
    Answers raises refuses s (groupChecked rd a (withTrapEntry s .final))
      (groupChecked rd a (withTrapEntry s .continues)) := by
  cases a with
  | none => exact answers_raiseExn h
  | some a => exact answers_groupWrite

theorem answers_addressChecked {a : Option Octlet} (h : raises .fixedPointArithmetic) :
    Answers raises refuses s (addressChecked rd a (withTrapEntry s .final))
      (addressChecked rd a (withTrapEntry s .continues)) := by
  cases a with
  | none => exact answers_raiseExn h
  | some a => exact answers_addressWrite

theorem answers_addressCompare {r : Relation} (h : raises .fixedPointArithmetic) :
    Answers raises refuses s (addressCompare r rd rc (withTrapEntry s .final))
      (addressCompare r rd rc (withTrapEntry s .continues)) :=
  answers_ite (c := s.compares r rd rc = true) (fun _ => answers_raiseExn h) fun _ => .completes s.advance rfl rfl

theorem answers_execGCopyI16 {sign : BitVec 1} {imm : BitVec 16} (h : raises .reservedInstruction) :
    Answers raises refuses s (execGCopyI16 sign rd imm (withTrapEntry s .final))
      (execGCopyI16 sign rd imm (withTrapEntry s .continues)) :=
  answers_ite (c := sign = 1) (fun _ => answers_raiseExn h) fun _ => answers_groupWrite

theorem answers_load {ext : Extension} {al : Alignment} {size : Nat} {ord : ByteOrder} {va : Octlet}
    (h : AllowsAccess raises refuses) :
    Answers raises refuses s (load ext al size ord rd rc va (withTrapEntry s .final))
      (load ext al size ord rd rc va (withTrapEntry s .continues)) :=
  answers_ite (c := al.rejects (s.lo rc) size = true) (fun _ => answers_raiseExn (h.access _)) fun _ =>
    answers_loadMemory h.access (fun _ => h.refuses_of_loadMemory) fun m =>
      .completes (s.setReg rd (ext.extend m)).advance rfl rfl

theorem answers_store {al : Alignment} {size : Nat} {ord : ByteOrder} {va : Octlet}
    (h : AllowsAccess raises refuses) :
    Answers raises refuses s (store al size ord rd rc va (withTrapEntry s .final))
      (store al size ord rd rc va (withTrapEntry s .continues)) :=
  answers_ite (c := al.rejects (s.lo rc) size = true) (fun _ => answers_raiseExn (h.access _)) fun _ =>
    answers_storeMemory h fun u => .completes u.advance rfl rfl

/-- A `lock` block whose end does not depend on the value either. -/
theorem answers_lockedOctlet {ord : ByteOrder} {va : Octlet} {update : Octlet → Option Octlet}
    {finish : Octlet → State → State} (h : AllowsAccess raises refuses)
    (hfinish : ∀ a u x, finish a (withTrapEntry u x) = withTrapEntry (finish a u) x) :
    Answers raises refuses s (lockedOctlet ord rc va (withTrapEntry s .final) update finish)
      (lockedOctlet ord rc va (withTrapEntry s .continues) update finish) := by
  have hend : ∀ a u, Answers raises refuses s (.next (finish a (withTrapEntry u .final)).advance)
      (.next (finish a (withTrapEntry u .continues)).advance) := by
    intro a u
    rw [hfinish, hfinish]
    exact .completes (finish a u).advance rfl rfl
  refine answers_ite (c := misaligned (s.lo rc) 64 = true) (fun _ => answers_raiseExn (h.access _)) fun _ =>
    answers_loadMemory h.access (fun _ => h.refuses_of_loadMemory) fun a => ?_
  cases update a with
  | none => exact hend a s
  | some m => exact answers_storeMemory h (hend a)

theorem answers_storeMultiplex {ord : ByteOrder} {va : Octlet} (h : AllowsAccess raises refuses) :
    Answers raises refuses s (storeMultiplex ord rd rc va (withTrapEntry s .final))
      (storeMultiplex ord rd rc va (withTrapEntry s .continues)) :=
  answers_lockedOctlet (update := fun a => some (multiplexed s rd a)) (finish := fun _ t => t) h fun _ _ _ => rfl

/-- The in-place stores: a `lock` block that returns the old octlet in `x[rd]`. -/
theorem answers_swap {ord : ByteOrder} {va : Octlet} {update : Octlet → Option Octlet}
    (h : AllowsAccess raises refuses) :
    Answers raises refuses s
      (lockedOctlet ord rc va (withTrapEntry s .final) update fun a t => t.setReg64 rd a)
      (lockedOctlet ord rc va (withTrapEntry s .continues) update fun a t => t.setReg64 rd a) :=
  answers_lockedOctlet h fun _ _ _ => rfl

theorem answers_addSwap {ord : ByteOrder} {va : Octlet} (h : AllowsAccess raises refuses) :
    Answers raises refuses s (addSwap ord rd rc va (withTrapEntry s .final))
      (addSwap ord rd rc va (withTrapEntry s .continues)) :=
  answers_swap (update := fun a => some (s.lo rd + a)) h

theorem answers_compareSwap {ord : ByteOrder} {va : Octlet} (h : AllowsAccess raises refuses) :
    Answers raises refuses s (compareSwap ord rd rc va (withTrapEntry s .final))
      (compareSwap ord rd rc va (withTrapEntry s .continues)) :=
  answers_swap (update := fun a => if a = s.lo rd then some (s.hi rd) else none) h

theorem answers_multiplexSwap {ord : ByteOrder} {va : Octlet} (h : AllowsAccess raises refuses) :
    Answers raises refuses s (multiplexSwap ord rd rc va (withTrapEntry s .final))
      (multiplexSwap ord rd rc va (withTrapEntry s .continues)) :=
  answers_swap (update := fun a => some (multiplexed s rd a)) h

theorem answers_doubleCompareSwap {ord : ByteOrder} (h : AllowsAccess raises refuses) :
    Answers raises refuses s (doubleCompareSwap ord rd rc rb (withTrapEntry s .final))
      (doubleCompareSwap ord rd rc rb (withTrapEntry s .continues)) :=
  answers_ite (c := (misaligned (s.lo rc) 64 || misaligned (s.lo rb) 64) = true)
    (fun _ => answers_raiseExn (h.access _)) fun _ =>
    answers_loadMemory h.access (fun _ => h.refuses_of_loadMemory) fun a1 =>
      answers_loadMemory h.access (fun _ => h.refuses_of_loadMemory) fun a2 =>
        answers_ite (c := s.hi rc ++ s.hi rb = a1 ++ a2)
          (fun _ => answers_storeMemory h fun _ => answers_storeMemory h fun u =>
            .completes (u.setReg rd (a1 ++ a2)).advance rfl rfl)
          fun _ => .completes (s.setReg rd (a1 ++ a2)).advance rfl rfl

/-! ### The branches -/

theorem answers_branchIf {taken : Bool} {offset : BitVec 12} :
    Answers raises refuses s (branchIf taken offset (withTrapEntry s .final))
      (branchIf taken offset (withTrapEntry s .continues)) :=
  answers_ite (c := taken = true) (fun _ => .completes (s.jump (s.branchTarget offset)) rfl rfl) fun _ =>
    .completes s.advance rfl rfl

/-- B and B.BARRIER, whose branch does not depend on the value. -/
theorem answers_branchRegister {take : State → Octlet → State} (hreserved : raises .reservedInstruction)
    (hbad : raises .badAddress) (htake : ∀ t x, take (withTrapEntry s x) t = withTrapEntry (take s t) x) :
    Answers raises refuses s
      (branchRegister rd rc rb (withTrapEntry s .final) fun t => .next (take (withTrapEntry s .final) t))
      (branchRegister rd rc rb (withTrapEntry s .continues) fun t => .next (take (withTrapEntry s .continues) t)) :=
  answers_ite (c := rc ≠ 0 ∨ rb ≠ 0) (fun _ => answers_raiseExn hreserved) fun _ =>
    answers_ite (c := badTarget (s.lo rd) = true) (fun _ => answers_raiseExn hbad) fun _ =>
      .completes (take s (wordTarget (s.lo rd))) (congrArg _ (htake _ _)) (congrArg _ (htake _ _))

theorem answers_execBLink (hreserved : raises .reservedInstruction) (hbad : raises .badAddress) :
    Answers raises refuses s (execBLink rd rc rb (withTrapEntry s .final))
      (execBLink rd rc rb (withTrapEntry s .continues)) :=
  answers_ite (c := rb ≠ 0) (fun _ => answers_raiseExn hreserved) fun _ =>
    answers_ite (c := badTarget (s.lo rc) = true) (fun _ => answers_raiseExn hbad) fun _ =>
      .completes ((s.setReg64 rd (s.pc + 4#64)).jump (wordTarget (s.lo rc))) rfl rfl

theorem answers_execBHint {count simm : BitVec 6} (hbad : raises .badAddress) :
    Answers raises refuses s (execBHint rd count simm (withTrapEntry s .final))
      (execBHint rd count simm (withTrapEntry s .continues)) :=
  answers_ite (c := badTarget (s.lo rd) = true) (fun _ => answers_raiseExn hbad) fun _ =>
    .completes s.advance rfl rfl

theorem answers_execBDown (hreserved : raises .reservedInstruction) :
    Answers raises refuses s (execBDown rd rc rb (withTrapEntry s .final))
      (execBDown rd rc rb (withTrapEntry s .continues)) :=
  answers_ite (c := rc ≠ 0 ∨ rb ≠ 0) (fun _ => answers_raiseExn hreserved) fun _ =>
    .completes ((s.lowerPrivilege ((s.lo rd).setWidth 2)).jump (wordTarget (s.lo rd))) rfl rfl

theorem answers_execBHalt (hreserved : raises .reservedInstruction) :
    Answers raises refuses s (execBHalt rd rc rb (withTrapEntry s .final))
      (execBHalt rd rc rb (withTrapEntry s .continues)) :=
  answers_ite (c := rd ≠ 0 ∨ rc ≠ 0 ∨ rb ≠ 0) (fun _ => answers_raiseExn hreserved) fun _ =>
    .completes s.halt rfl rfl

theorem answers_execBBack (hreserved : raises .reservedInstruction) (h : AllowsAccess raises refuses) :
    Answers raises refuses s (execBBack rd rc rb (withTrapEntry s .final))
      (execBBack rd rc rb (withTrapEntry s .continues)) :=
  answers_ite (c := rd ≠ 0 ∨ rc ≠ 0 ∨ rb ≠ 0) (fun _ => answers_raiseExn hreserved) fun _ =>
    answers_loadMemory h.access (fun _ => h.refuses_of_loadMemory) fun a =>
      .completes
        ((((s.lowerPrivilege ((s.lo 0).setWidth 2)).jump (wordTarget (s.lo 0))).clearExceptionState).setReg 0 a) rfl rfl

/-- The octlet that B.GATE reads is aligned, so that it is never past the last address. -/
theorem gateway_refused {r : Refusal} (hal : ¬misaligned (s.lo 1) 64 = true)
    (h : s.loadMemory .gateway (s.lo 1) (s.lo 1) 64 .little = .refused r) : r = .ioTransaction := by
  have hbase : (s.lo 1).toNat % 8 = 0 :=
    (misaligned_eq_false_iff (rc := 1) isAccessSize_octlet).1 (Bool.eq_false_of_not_eq_true hal)
  obtain ⟨-, hend⟩ | hr := State.loadMemory_eq_refused h
  · have hlt := (s.lo 1).isLt
    omega
  · exact hr

theorem answers_execBGate (hreserved : raises .reservedInstruction) (hgate : raises .gatewayDisallowed)
    (haccess : ∀ e, raises (.access e)) (hio : refuses .ioTransaction) :
    Answers raises refuses s (execBGate rd rc rb (withTrapEntry s .final))
      (execBGate rd rc rb (withTrapEntry s .continues)) :=
  answers_ite (c := rd ≠ 0 ∨ rc ≠ 1) (fun _ => answers_raiseExn hreserved) fun _ =>
    answers_ite (c := misaligned (s.lo 1) 64 = true) (fun _ => answers_raiseExn (haccess _)) fun hal =>
      answers_ite (c := s.privilegeLevel < (s.lo rb).setWidth 2)
        (fun _ => answers_loadMemory haccess (fun _ hr => gateway_refused hal hr ▸ hio) fun m =>
          answers_ite (c := s.lo rb ≠ m) (fun _ => answers_raiseExn hgate) fun _ =>
            .completes (enterGateway rb (s.setPrivilege ((s.lo rb).setWidth 2)) s) rfl rfl)
        fun _ => .completes (enterGateway rb s s) rfl rfl

end

/-! ### All instructions -/

/-- What every instruction answers under either value of `TrapEntry`: one case for each shared body of the meanings. -/
theorem exec_answers (i : Instr) (s : State) :
    Answers (MayRaise i) (MayRefuse i) s (exec i (withTrapEntry s .final)) (exec i (withTrapEntry s .continues)) := by
  unfold exec
  cases i with
  | l8 | l16B | l16AB | l16L | l16AL | l32B | l32AB | l32L | l32AL | l64B | l64AB | l64L | l64AL | l128B
  | l128AB | l128L | l128AL | lU8 | lU16B | lU16AB | lU16L | lU16AL | lU32B | lU32AB | lU32L | lU32AL | lU64B
  | lU64AB | lU64L | lU64AL | lI8 | lI16AB | lI16B | lI16AL | lI16L | lI32AB | lI32B | lI32AL | lI32L | lI64AB
  | lI64B | lI64AL | lI64L | lI128AB | lI128B | lI128AL | lI128L | lIU8 | lIU16AB | lIU16B | lIU16AL | lIU16L
  | lIU32AB | lIU32B | lIU32AL | lIU32L | lIU64AB | lIU64B | lIU64AL | lIU64L =>
    exact answers_load (allowsAccess_of_isLoad rfl)
  | s8 | s16B | s16AB | s16L | s16AL | s32B | s32AB | s32L | s32AL | s64B | s64AB | s64L | s64AL | s128B
  | s128AB | s128L | s128AL | sI8 | sI16AB | sI16B | sI16AL | sI16L | sI32AB | sI32B | sI32AL | sI32L | sI64AB
  | sI64B | sI64AL | sI64L | sI128AB | sI128B | sI128AL | sI128L =>
    exact answers_store (allowsAccess_of_isStore rfl)
  | sMux64AB | sMux64AL | sMuxi64AB | sMuxi64AL =>
    exact answers_storeMultiplex (allowsAccess_of_isStore rfl)
  | aRes =>
    exact answers_raiseExn rfl
  | aAdd | aAnd | aAndn | aNand | aNor | aOr | aOrn | aXnor | aXor | aAddI | aAndI | aNandI | aNorI | aOrI
  | aXorI | aSubI | aSub | aShlIAdd | aShlISub | aShlI | aShrI | aShrIU | aMux
  | aSetAndEI | aSetAndNeI | aSetEI | aSetGeI | aSetLI | aSetNeI | aSetGeIU | aSetLIU | aSetAndE | aSetAndNe
  | aSetE | aSetGe | aSetGeU | aSetL | aSetLU | aSetNe =>
    exact answers_addressWrite
  | aAddO | aAddUO | aAddIO | aAddIUO | aSubIO | aSubIUO | aSubO | aSubUO | aShlIO | aShlIUO =>
    exact answers_addressChecked rfl
  | aComAndE | aComAndNe | aComE | aComGe | aComGeU | aComL | aComLU | aComNe =>
    exact answers_addressCompare rfl
  | aCopyI
  | gAddH8C | gAddH8F | gAddH8N | gAddH8Z | gAddH16C | gAddH16F | gAddH16N | gAddH16Z | gAddH32C | gAddH32F
  | gAddH32N | gAddH32Z | gAddH64C | gAddH64F | gAddH64N | gAddH64Z | gAddH128C | gAddH128F | gAddH128N
  | gAddH128Z | gAddHU8C | gAddHU8F | gAddHU8N | gAddHU16C | gAddHU16F | gAddHU16N | gAddHU32C | gAddHU32F
  | gAddHU32N | gAddHU64C | gAddHU64F | gAddHU64N | gAddHU128C | gAddHU128F | gAddHU128N | gCopyI32 | gCopyI64
  | gCopyI128 | gAaa8 | gAaa16 | gAaa32 | gAaa64 | gAaa128 | gAsa8 | gAsa16 | gAsa32 | gAsa64 | gAsa128
  | gShlIAdd8 | gShlIAdd16 | gShlIAdd32 | gShlIAdd64 | gShlIAdd128 | gShlISub8 | gShlISub16 | gShlISub32
  | gShlISub64 | gShlISub128 | gAddI16 | gAddI32 | gAddI64 | gAddI128 | gAndI16 | gAndI32 | gAndI64 | gAndI128
  | gNandI16 | gNandI32 | gNandI64 | gNandI128 | gNorI16 | gNorI32 | gNorI64 | gNorI128 | gOrI16 | gOrI32
  | gOrI64 | gOrI128 | gXorI16 | gXorI32 | gXorI64 | gXorI128 | gSetAndEI16 | gSetAndEI32 | gSetAndEI64
  | gSetAndEI128 | gSetAndNeI16 | gSetAndNeI32 | gSetAndNeI64 | gSetAndNeI128 | gSetEI16 | gSetEI32 | gSetEI64
  | gSetEI128 | gSetGeI16 | gSetGeI32 | gSetGeI64 | gSetGeI128 | gSetGeIU16 | gSetGeIU32 | gSetGeIU64
  | gSetGeIU128 | gSetLI16 | gSetLI32 | gSetLI64 | gSetLI128 | gSetLIU16 | gSetLIU32 | gSetLIU64 | gSetLIU128
  | gSetNeI16 | gSetNeI32 | gSetNeI64 | gSetNeI128 | gSubI16 | gSubI32 | gSubI64 | gSubI128 =>
    exact answers_groupWrite
  | gAddI16O | gAddI32O | gAddI64O | gAddI128O | gAddIU16O | gAddIU32O | gAddIU64O | gAddIU128O | gSubI16O
  | gSubI32O | gSubI64O | gSubI128O | gSubIU16O | gSubIU32O | gSubIU64O | gSubIU128O =>
    exact answers_groupChecked rfl
  | gCopyI16 =>
    exact answers_execGCopyI16 rfl
  | bHint =>
    exact answers_execBHint (.inr (.inr (.inl rfl)))
  | bHintI =>
    exact .completes s.advance rfl rfl
  | sASI64AB | sASI64AL | sAS64AB | sAS64AL =>
    exact answers_addSwap (allowsAccess_of_isStore rfl)
  | sCSI64AB | sCSI64AL | sCS64AB | sCS64AL =>
    exact answers_compareSwap (allowsAccess_of_isStore rfl)
  | sMSI64AB | sMSI64AL | sMS64AB | sMS64AL =>
    exact answers_multiplexSwap (allowsAccess_of_isStore rfl)
  | sDCS64AB | sDCS64AL =>
    exact answers_doubleCompareSwap (allowsAccess_of_isStore rfl)
  | bAndE | bAndNe | bE | bGe | bL | bNe | bGeU | bLU | bEF16 | bEF32 | bEF64 | bEF128 | bGeF16 | bGeF32
  | bGeF64 | bGeF128 | bLF16 | bLF32 | bLF64 | bLF128 | bLgF16 | bLgF32 | bLgF64 | bLgF128 | bIF32 | bNiF32
  | bNvF32 | bVF32 =>
    exact answers_branchIf
  | b =>
    exact answers_branchRegister (take := State.jump) rfl (.inr (.inr (.inl rfl))) fun _ _ => rfl
  | bI offset =>
    exact .completes (s.jump (s.branchTarget offset)) rfl rfl
  | bLinkI offset =>
    exact .completes ((s.setReg64 0 (s.pc + 4#64)).jump (s.branchTarget offset)) rfl rfl
  | bLink =>
    exact answers_execBLink rfl (.inr (.inr (.inl rfl)))
  | bBarrier =>
    exact answers_branchRegister (take := fun s t => (s.jump t).fetchBarrier) rfl (.inr (.inr (.inl rfl)))
      fun _ _ => rfl
  | bDown =>
    exact answers_execBDown rfl
  | bGate rd rc rb =>
    exact answers_execBGate rfl ⟨rd, rc, rb, rfl⟩ (fun _ => .inr (.inr (.inr ⟨rd, rc, rb, .inr rfl⟩)))
      (.inr (.inr ⟨rd, rc, rb, .inr rfl⟩))
  | bBack rd rc rb =>
    exact answers_execBBack rfl (allowsAccess_bBack rd rc rb)
  | bHalt =>
    exact answers_execBHalt rfl

/-- What an instruction answers in a state: of its two answers, the one for the value of `TrapEntry` there. -/
theorem exec_cases (i : Instr) (s : State) :
    (∃ t, exec i s = .next t) ∨ (∃ e, MayRaise i e ∧ exec i s = s.raiseExn e) ∨
      ∃ r, MayRefuse i r ∧ exec i s = .refused r := by
  rw [← withTrapEntry_self s]
  cases exec_answers i s with
  | completes t hfinal hcontinues =>
    cases s.params.trapEntry with
    | final => exact .inl ⟨_, hfinal⟩
    | continues => exact .inl ⟨_, hcontinues⟩
  | raised e he hfinal hcontinues =>
    cases s.params.trapEntry with
    | final => exact .inr (.inl ⟨e, he, hfinal⟩)
    | continues => exact .inr (.inl ⟨e, he, hcontinues⟩)
  | refused r hr hfinal hcontinues =>
    cases s.params.trapEntry with
    | final => exact .inr (.inr ⟨r, hr, hfinal⟩)
    | continues => exact .inr (.inr ⟨r, hr, hcontinues⟩)

/-! ### Faults (60_exceptions.md rule R907) -/

/-- `f` is the fault of an exception raised in `s`. -/
def State.Faults (s : State) (f : Fault) : Prop := s.params.trapEntry = .final ∧ ∃ e, f = .raised e s.pc

/-- A raised exception ends the run under the default of `TrapEntry` only, and in the fault that names it. -/
theorem State.raiseExn_eq_fault {s : State} {e : Exn} {f : Fault} (h : s.raiseExn e = .fault f) :
    s.params.trapEntry = .final ∧ f = .raised e s.pc := by
  unfold State.raiseExn at h
  split at h
  · rename_i hfinal
    cases h
    exact ⟨hfinal, rfl⟩
  · cases h

theorem State.faults_of_raiseExn {s : State} {e : Exn} {f : Fault} (h : s.raiseExn e = .fault f) : s.Faults f := by
  obtain ⟨hfinal, rfl⟩ := State.raiseExn_eq_fault h
  exact ⟨hfinal, e, rfl⟩

/-- What an instruction that faults has done: raised an exception it may raise. -/
theorem exec_eq_fault {i : Instr} {s : State} {f : Fault} (h : exec i s = .fault f) :
    ∃ e, MayRaise i e ∧ s.raiseExn e = .fault f := by
  obtain ⟨t, ht⟩ | ⟨e, he, hraise⟩ | ⟨r, -, hr⟩ := exec_cases i s
  · cases ht.symm.trans h
  · exact ⟨e, he, hraise.symm.trans h⟩
  · cases hr.symm.trans h

/-- An instruction is refused only for what it may be refused for. -/
theorem exec_eq_refused {i : Instr} {s : State} {r : Refusal} (h : exec i s = .refused r) : MayRefuse i r := by
  obtain ⟨t, ht⟩ | ⟨e, -, hraise⟩ | ⟨r', hr', hrefused⟩ := exec_cases i s
  · cases ht.symm.trans h
  · exact absurd (hraise.symm.trans h) (s.raiseExn_ne_refused e r)
  · cases hrefused.symm.trans h
    exact hr'

/-- A word that faults has raised an exception in the state in which it was run. -/
theorem runWord_eq_fault {w : Word} {s : State} {f : Fault} (h : runWord w s = .fault f) : s.Faults f := by
  unfold runWord runDecoded at h
  split at h
  · unfold State.withRegisters at h
    split at h
    · obtain ⟨e, -, he⟩ := exec_eq_fault h
      exact State.faults_of_raiseExn he
    · cases h
  · exact State.faults_of_raiseExn h
  · cases h

/-- A step that faults has raised an exception of its fetch, or in the state after the fetch, which has the same
`pc` and the same parameters. -/
theorem step_eq_fault {s : State} {f : Fault} (h : step s = .fault f) : s.Faults f := by
  unfold step at h
  split at h
  · cases h
  cases hfetch : s.fetch with
  | ok wt =>
    rw [hfetch, Access.andThen_ok] at h
    have hfaults := runWord_eq_fault h
    rwa [State.fetch_eq_ok hfetch] at hfaults
  | raised e =>
    rw [hfetch, Access.andThen_raised] at h
    exact State.faults_of_raiseExn h
  | refused r =>
    rw [hfetch] at h
    cases h

/-- Settles O60: a fault is that of an exception the instruction may raise. -/
theorem exceptionsByInstruction : Obligations.ExceptionsByInstruction := by
  intro i s e pc h
  obtain ⟨e', he, hraise⟩ := exec_eq_fault h
  obtain ⟨-, heq⟩ := State.raiseExn_eq_fault hraise
  cases heq
  cases e <;> exact he

/-! ### Where a run goes on after an exception -/

/-- The address of the handler is a multiple of 4. -/
theorem enterTrap_pc_mod (s : State) (e : Exn) : (s.enterTrap e).pc.toNat % 4 = 0 := by
  rw [State.enterTrap_frame]
  simp only [toNat_append_two_bits]
  simp

/-- Settles O58: trap entry by its frame, and an instruction by its two answers. -/
theorem trapEntryContinues : Obligations.TrapEntryContinues := by
  refine ⟨fun s e => ⟨enterTrap_pc_mod s e, fun hw => State.storeCells_wf _ _ hw,
    fun hw => State.storeCells_inSpace _ _ hw, ?_⟩, fun i s hs => ?_⟩
  · rw [State.enterTrap_frame]
  have hself : withTrapEntry s .continues = s := by rw [← hs, withTrapEntry_self]
  have hanswers := exec_answers i s
  rw [hself] at hanswers
  cases hanswers with
  | completes t hfinal hcontinues =>
    rw [hfinal]
    refine ⟨fun u hu => ?_, nofun, nofun⟩
    cases hu
    exact hcontinues
  | raised e _ hfinal hcontinues =>
    rw [hself, State.raiseExn_continues hs] at hcontinues
    rw [hfinal, State.raiseExn_final rfl]
    refine ⟨nofun, fun e' pc he => ?_, nofun⟩
    cases he
    exact hcontinues
  | refused r _ hfinal hcontinues =>
    rw [hfinal]
    refine ⟨nofun, nofun, fun r' hr => ?_⟩
    cases hr
    exact hcontinues

/-! ### Accesses that reach an I/O address (20_memory.md rules R105 and R107) -/

/-- A `lock` block is refused where the load at its head is. -/
theorem lockedOctlet_of_refused {ord : ByteOrder} {rc : Reg} {va : Octlet} {s : State}
    {update : Octlet → Option Octlet} {finish : Octlet → State → State} {r : Refusal}
    (h : misaligned (s.lo rc) 64 = false) (hr : s.span .write (s.lo rc) va 8 = .refused r) :
    lockedOctlet ord rc va s update finish = .refused r := by
  rw [lockedOctlet, if_neg (by simp [h]), State.loadMemory_of_span_refused hr, Access.andThen_refused]

section
variable {ord : ByteOrder} {rd rc rb : Reg} {s : State} {r : Refusal} (hc : BaseAligned s rc 64)
  (hb : BaseAligned s rb 64)
include hc hb

/-- S.D.C.S is refused where the load of the octlet at the `rc` address is. -/
theorem doubleCompareSwap_of_refused_first (hr : s.span .write (s.lo rc) (s.lo rc) 8 = .refused r) :
    doubleCompareSwap ord rd rc rb s = .refused r := by
  rw [doubleCompareSwap, if_neg (not_misaligned_or hc hb), State.loadMemory_of_span_refused hr, Access.andThen_refused]

/-- S.D.C.S is refused where the other octlet was loaded and the load of the one at the `rb` address is refused. -/
theorem doubleCompareSwap_of_refused_second {pa : Nat → Nat} (hm : s.Maps .write (s.lo rc) (s.lo rc) 8 pa)
    (hr : s.span .write (s.lo rb) (s.lo rb) 8 = .refused r) : doubleCompareSwap ord rd rc rb s = .refused r := by
  obtain ⟨a, ha⟩ := State.loadMemory_of_maps (size := 64) hm ord
  rw [doubleCompareSwap, if_neg (not_misaligned_or hc hb), ha, Access.andThen_ok, State.loadMemory_of_span_refused hr,
    Access.andThen_refused]

end

/-- A load whose base passes its test is refused where it reaches an I/O address. -/
theorem exec_loadForm_io {f : LoadForm} (hf : f ∈ loadForms) (rd : Reg) {rc : Reg} {p : Place} {s : State}
    (hal : f.aligned = true → BaseAligned s rc f.size)
    (hio : ReachesIO s .read (s.lo rc) (p.address s rc f.size) (f.size / 8)) :
    exec (f.instr rd rc p) s = .refused .ioTransaction := by
  have hacc := rejects_ofFlag_of_accepted (loadForms_size hf) hal
  rw [exec_loadForm hf, load_of_accepts hacc, State.loadMemory_of_span_refused (State.span_of_reachesIO hio),
    Access.andThen_refused]

/-- A store of one address whose base passes its test is refused where it reaches an I/O address. -/
theorem exec_oneAddressStore_io {f : StoreForm}
    (hf : f ∈ storeForms ++ multiplexForms ++ addSwapForms ++ compareSwapForms ++ multiplexSwapForms) (rd : Reg)
    {rc : Reg} {p : Place} {s : State} (hal : f.aligned = true → BaseAligned s rc f.size)
    (hio : ReachesIO s .write (s.lo rc) (p.address s rc f.size) (f.size / 8)) :
    exec (f.instr rd rc p) s = .refused .ioTransaction := by
  obtain hf | hf := mem_storeForms_or_lockedForms hf
  · have hacc := rejects_ofFlag_of_accepted (storeForms_size hf) hal
    rw [exec_storeForm hf, store_of_accepts hacc, State.storeMemory_of_span_refused (State.span_of_reachesIO hio),
      Access.andThen_refused]
  · obtain ⟨update, finish, hexec⟩ := exec_lockedForm hf rd rc p s
    obtain ⟨haligned, hsize⟩ := lockedForms_aligned_size hf
    have hb := hal haligned
    rw [hsize] at hb hio
    rw [hexec, lockedOctlet_of_refused ((misaligned_eq_false_iff isAccessSize_octlet).2 hb)
      (State.span_of_reachesIO hio)]

/-- S.D.C.S with both addresses aligned is refused where the octlet at the `rc` address lies at an I/O address, and
where that one maps and the octlet at the `rb` address lies at one. -/
theorem exec_doubleSwapForm_io {f : (Reg → Reg → Reg → Instr) × ByteOrder} (hf : f ∈ doubleSwapForms) (rd : Reg)
    {rc rb : Reg} {s : State} (hc : BaseAligned s rc 64) (hb : BaseAligned s rb 64) :
    (ReachesIO s .write (s.lo rc) (s.lo rc) 8 → exec (f.1 rd rc rb) s = .refused .ioTransaction) ∧
      ((∃ pa, s.Maps .write (s.lo rc) (s.lo rc) 8 pa) → ReachesIO s .write (s.lo rb) (s.lo rb) 8 →
        exec (f.1 rd rc rb) s = .refused .ioTransaction) := by
  rw [exec_doubleSwapForm hf]
  exact ⟨fun hio => doubleCompareSwap_of_refused_first hc hb (State.span_of_reachesIO hio),
    fun ⟨_, hm⟩ hio => doubleCompareSwap_of_refused_second hc hb hm (State.span_of_reachesIO hio)⟩

/-- B.BACK is refused where the thread's `x[0]` lies at an I/O address. -/
theorem exec_bBack_io {s : State}
    (hio : ReachesIO s .read s.exceptionBase (s.exceptionBase + s.thread * 128#64) 16) :
    exec (.bBack 0 0 0) s = .refused .ioTransaction := by
  rw [exec_bBack, State.returnFromException, State.loadMemory_of_span_refused (State.span_of_reachesIO hio),
    Access.andThen_refused]

/-- B.GATE that asks for a higher level is refused where the gateway lies at an I/O address. -/
theorem exec_bGate_io {rb : Reg} {s : State} (hal : (s.lo 1).toNat % 8 = 0)
    (hlt : s.privilegeLevel.toNat < (s.lo rb).toNat % 4) (hio : ReachesIO s .gateway (s.lo 1) (s.lo 1) 8) :
    exec (.bGate 0 1 rb) s = .refused .ioTransaction := by
  rw [exec_bGate_of_lt hal hlt, State.loadMemory_of_span_refused (State.span_of_reachesIO hio), Access.andThen_refused]

/-- A step is refused where its word lies at an I/O address. -/
theorem step_io {s : State} (hrun : s.halted = false) (hio : ReachesIO s .execute s.pc s.pc 4) :
    step s = .refused .ioTransaction := by
  rw [step, if_neg (by simp [hrun]), State.fetch_of_span_refused (State.span_of_reachesIO hio), Access.andThen_refused]

/-- Settles O59: faults and refusals by what every instruction answers, and each access at an I/O address by the body
that makes it. -/
theorem howRunsStop : Obligations.HowRunsStop := by
  refine ⟨fun s f => step_eq_fault, fun i s r h => ?_, fun f hf rd rc p s => exec_loadForm_io hf rd,
    fun f hf rd rc p s => exec_oneAddressStore_io hf rd, fun f hf rd rc rb s => exec_doubleSwapForm_io hf rd,
    fun s => ⟨exec_bBack_io, fun rb => exec_bGate_io, step_io⟩⟩
  have hr := exec_eq_refused h
  cases r with
  | accessPastEnd => exact .inl ⟨rfl, hr⟩
  | ioTransaction => exact .inr ⟨rfl, hr⟩
  | notModelled | unassignedWord | missingRegister => exact hr.elim

end Sys2Proof.Machine
end

section
/-! The family 70_reset_and_hazards: what reset leaves under any launch, and under the recommended one. -/

namespace Sys2Proof

/-- The model's own operation-code map is one that 30_encoding.md rule R134 allows: a finite check of its 350 codes,
pair by pair. -/
theorem opcodeMap_valid : opcodeMap.valid = true := by decide +kernel

end Sys2Proof

namespace Sys2Proof.Machine

/-! ### Reset under any launch (70_reset_and_hazards.md rules R962 and R964) -/

/-- The low two bits are clear in the multiples of 4. -/
theorem setWidth_two_eq_zero_iff {a : Octlet} : a.setWidth 2 = 0#2 ↔ a.toNat % 4 = 0 := by
  rw [← BitVec.toNat_inj, BitVec.toNat_setWidth, BitVec.toNat_ofNat]

/-- A register after reset holds what the launcher supplies. -/
@[simp] theorem State.launch_reg (l : Launch) (r : Reg) : (State.launch l).reg r = l.regs[r.toNat]'r.isLt := rfl

/-- Reset satisfies the invariant exactly if the image is canonical and within the physical addresses and `ResetPC` is a
multiple of 4. -/
theorem State.launch_inv_iff {l : Launch} :
    (State.launch l).Inv ↔ l.image.wf = true ∧ l.image.inSpace = true ∧ l.resetPC.toNat % 4 = 0 :=
  and_congr_right' (and_congr_right' setWidth_two_eq_zero_iff)

/-- Settles O51: `State.launch` takes each field from the launcher or sets it to a value of its own, and the invariant
is a condition on the launch. -/
theorem launchState : Obligations.LaunchState := fun l =>
  ⟨State.launch_reg l, rfl, rfl, rfl, rfl, State.launch_mem l, rfl, rfl, rfl, rfl, rfl,
    fun hpc hwf hspace => State.launch_inv_iff.2 ⟨hwf, hspace, hpc⟩⟩

/-! ### Reset (10_state.md rule R70) -/

/-- Reset satisfies the invariant: memory lists nothing, and `pc` is 0. -/
theorem State.reset_inv : State.reset.Inv :=
  State.launch_inv_iff.2 ⟨Memory.wf_empty, Memory.inSpace_empty, rfl⟩

/-- Every register is 0 after reset. -/
theorem State.reset_reg (r : Reg) : State.reset.reg r = 0 :=
  (State.launch_reg Config.defaultLaunch r).trans (Vector.getElem_replicate r.isLt)

/-- Every byte of memory reads 0 after reset. -/
theorem State.reset_mem_read (a : Nat) : State.reset.mem.read a = 0 := Memory.read_empty a

/-- After reset the virtual addresses that are physical ones translate to themselves in memory, and no others do. -/
theorem State.reset_translate (kind : AccessKind) (ba va : Octlet) :
    (va.toNat < 2 ^ 32 → State.reset.translate kind ba va = .ok { transaction := .memory, address := va.toNat }) ∧
      (2 ^ 32 ≤ va.toNat → State.reset.translate kind ba va = .raised .disallowedByVirtualAddress) := by
  rw [State.translate_identity (s := State.reset) rfl]
  exact ⟨fun h => if_pos h, fun h => if_neg (Nat.not_lt.2 h)⟩

/-- Settles O50: registers, memory, translation, the operation-code map and the invariant by their lemmas, and every other
field as `Config.defaultLaunch` gives it. -/
theorem resetState : Obligations.ResetState :=
  ⟨State.reset_inv, rfl, rfl, rfl, State.reset_reg, rfl, rfl, rfl, State.reset_mem_read, rfl, rfl, opcodeMap_valid, rfl,
    rfl, State.reset_translate, rfl, rfl, rfl, rfl, rfl, rfl, rfl⟩

end Sys2Proof.Machine
end
